-- ==== Sys2Proof/Word.lean ====
section
/-! DEFINITION. The word types of the PL840 model and the numbers of its shared and per-lane units.
Sample values are exact integers; what the part numbers modulo a power of two is a bit vector. -/

namespace Sys2Proof

/-- One data byte of the Control Link (R158). -/
abbrev Byte := BitVec 8

/-- One 8b/10b code on the Control Link, its first transmitted bit the most significant (R158,
assumption 34). -/
abbrev Code := BitVec 10

/-- A lane position or an instant index: 32 bits, wrapping modulo 2^32 (R15, R42; conventions of 00). -/
abbrev Pos := BitVec 32

/-- A lane, 0 to 7. -/
abbrev LaneId := Fin 8

/-- A bank of the Repair Engine, Bank 0 or Bank 1 (R106). -/
abbrev BankId := Fin 2

/-- A record id, 16 bits, lane-local (R89). -/
abbrev RecordId := BitVec 16

end Sys2Proof
end

