-- ==== Sys2Proof/Syntax.lean ====
section
/-! DEFINITION. The commands of the PL840: one constructor for each row of spec/opcode_table.json.
The PL840 is a block and not a processor: what it is given are frames of the Control Link, words and
edges at its ports, the level of RESETn, and the events of its own blocks. -/

namespace Sys2Proof

/-- The fields of a command frame that its kind leaves open: tag, lane field and payload (R158). -/
structure Command where
  tag : Byte
  lane : Byte
  payload : List Byte
  deriving DecidableEq, Repr

/-- The steps inside which the table's named events come about (95): a sensor word, a generated
instant of a lane, or a write-back. -/
inductive Cause where
  | word (w : BitVec 32)
  | generator (lane : LaneId)
  | writeBack
  deriving DecidableEq, Repr

/-- The Notice Latches: one for each lane and one for the device (R173). -/
inductive LatchId where
  | lane (l : LaneId)
  | device
  deriving DecidableEq, Repr

/-- The 43 rows of spec/opcode_table.json, in the table's order.
A row that names an event inside another step (SIGNAL_LOST to SEGMENT_LENGTH_END) carries the step
that brings the event about (assumption 4). FRAME_RECEIVED carries the 8b/10b codes that have arrived, its
frame's end character the last of them (R158, R159, assumption 17). -/
inductive Instr where
  | identify (c : Command)
  | deviceReset (c : Command)
  | resetAfterReply
  | getLinkStats (c : Command)
  | clearLinkStats (c : Command)
  | enableLane (c : Command)
  | disableLane (c : Command)
  | startLane (c : Command)
  | stopLane (c : Command)
  | resetLane (c : Command)
  | defaultLane (c : Command)
  | queryLane (c : Command)
  | setNoticeMask (c : Command)
  | setParam (c : Command)
  | getParam (c : Command)
  | readTable (c : Command)
  | writeTable (c : Command)
  | loadSegment (c : Command)
  | endSegment (c : Command)
  | collectReport (c : Command)
  | unknownKind (kind : Byte) (c : Command)
  | resetnAsserted
  | resetnReleased
  | sensorWord (w : BitVec 32)
  | perfEdge (lane : LaneId)
  | spliceEdge (lane : LaneId)
  | generatorInstant (lane : LaneId)
  | signalLost (cause : Cause)
  | signalRecovered (cause : Cause)
  | trackLock (cause : Cause)
  | outlierLossOfLock (cause : Cause)
  | trackTimeout (cause : Cause)
  | recordClose (cause : Cause)
  | templateSwap (cause : Cause)
  | floorUpdate (cause : Cause)
  | segmentLengthEnd (cause : Cause)
  | jobLoad
  | jobCompletion
  | writeBack
  | frameReceived (codes : List Code)
  | replyEntry
  | noticeFormed (latch : LatchId)
  | frameSent
  deriving DecidableEq, Repr

end Sys2Proof
end

