-- ==== Sys2Proof/Decode.lean ====
section
/-! DEFINITION. The command that a table word spells. No row of spec/opcode_table.json gives bits
(98_reader.md: no row with fixed bits, none with fields), so no word spells a command (assumption 30).
The frames of the Control Link and the sensor word, which the spec's formats section lays out, are
decoded in Machine/Operands.lean. -/

namespace Sys2Proof

/-- The command a word spells by the table's bits: none, since no row has bits. -/
def decodeTableWord (_nbits _w : Nat) : Option Instr := none

end Sys2Proof
end

