-- ==== Sys2Proof/Config.lean ====
section
/-! DEFINITION. The fixed figures of the part (the table of 00_scope.md), and the two values the
spec leaves open while the part goes on. -/

namespace Sys2Proof.Config

/-- History Ring capacity, tail included (R47). -/
def ringCapacity : Nat := 2048
/-- Departed entries the ring retains (R55). -/
def tailCapacity : Nat := 8
/-- Defect Queue capacity (R97). -/
def queueCapacity : Nat := 32
/-- The longest defect record (R94). -/
def longestRecord : Nat := 1024
/-- Quiet entries needed to close a record (R93). -/
def quietToClose : Nat := 8
/-- Context on each side of a repair (R107). -/
def contextLength : Nat := 8
/-- Signal loss and recovery thresholds (R16). -/
def signalThreshold : Nat := 64
/-- Detector settle count after start or recovery (R82, R88). -/
def settleCount : Nat := 64
/-- Matching intervals that give lock, and outliers that end it (R28, R31). -/
def runToChange : Nat := 4
/-- Departures in a floor run (R132). -/
def floorRun : Nat := 256
/-- Inbound queue depth (R160). -/
def inboundDepth : Nat := 8
/-- Largest inbound payload (R158). -/
def inboundPayload : Nat := 1280
/-- Largest outbound payload (R158). -/
def outboundPayload : Nat := 3200
/-- Outbound queue size in bytes (R170). -/
def outboundSize : Nat := 65536
/-- The outbound reserve for replies and notices (R171). -/
def outboundReserve : Nat := 4096
/-- The bytes a frame takes beyond its payload (R158). -/
def frameOverhead : Nat := 7
/-- Entries a table command may name (R166). -/
def tableCount : Nat := 256
/-- The most outputs that one instant completes (R37). -/
def outputsPerInstant : Nat := 21
/-- The largest value of a report or statistics counter (R155, R174). -/
def counterMax : Nat := 4294967295

/-- FREE VALUE (assumption 12): the four bytes that a stream block carries for a first position above
4,294,967,295. The spec numbers segment positions from 0 without a bound and gives the field four
bytes, and does not say what such a block carries. -/
opaque overlongFirstPosition : Nat → BitVec 32

/-- FREE VALUE (assumption 34): whether the receiver takes a code of the wrong column, which breaks the
running disparity, for one that is not valid. The spec says "a character that is not a valid code" (R159)
and no more. -/
opaque checksDisparity : Bool

end Sys2Proof.Config
end

