-- ==== Sys2Proof/Machine/Arith.lean ====
section
/-! DEFINITION. The arithmetic conventions of 00_scope.md: floor division, clamps, saturating counters,
and positions compared modulo 2^32. -/

namespace Sys2Proof.Machine

/-- floor(a / b) for a positive b: every division of the part rounds toward minus infinity
(00, Division and rounding). `Int`'s division by a positive divisor is that floor. -/
def floorDiv (a b : Int) : Int := a / b

/-- floor(a / 2^k), the arithmetic right shift by k places (00, Division and rounding). -/
def floorShift (a : Int) (k : Nat) : Int := floorDiv a (2 ^ k)

/-- Limits a value to lo to hi. -/
def clampTo (lo hi v : Int) : Int := max lo (min hi v)

/-- Clamp24: the signed 24-bit range (00, Sample values). -/
def clamp24 (v : Int) : Int := clampTo (-8388608) 8388607 v

/-- Clamp16: the signed 16-bit range (00, Sample values). -/
def clamp16 (v : Int) : Int := clampTo (-32768) 32767 v

/-- An increase of a report counter, a link statistic or a half-energy sum: it stops at
4,294,967,295 (R155, R174, R96). -/
def satAdd (c n : Nat) : Nat := min (c + n) Config.counterMax

/-- The signed difference a − b of two positions, taken modulo 2^32 (00, Lane positions). -/
def posDiff (a b : Pos) : Int := (a - b).toInt

/-- The position n steps after p, modulo 2^32. -/
def posAdd (p : Pos) (n : Int) : Pos := p + BitVec.ofInt 32 n

/-- A position lies in the span start to stop, both included (R48). -/
def inSpan (start stop p : Pos) : Bool := decide ((p - start).toNat ≤ (stop - start).toNat)

/-- stop − start + 1, the length of a span (R89). -/
def spanLength (start stop : Pos) : Nat := (stop - start).toNat + 1

/-- An integer as a sample-valued bit field is read: the signed value of the low `bits` bits. -/
def signedOf (bits : Nat) (v : Nat) : Int := (BitVec.ofNat bits v).toInt

end Sys2Proof.Machine
end

