-- ==== Sys2Proof/Machine/Params.lean ====
section
/-! DEFINITION. The parameter map (09_the_control_link.md, Parameters): each lane parameter's id, range,
default and class, the clamp of a written value, and a lane's stored parameters. -/

namespace Sys2Proof.Machine

/-- The 43 lane parameters, in the order of the map. -/
inductive Param where
  /-- RAIL_MODE: 0 SINGLE, 1 DUAL (R12). -/
  | railMode
  /-- SOURCE: 0 SENSOR, 1 GENERATOR (R22). -/
  | source
  /-- MUTE_ON_LOSS: 0 OFF, 1 ON (R18). -/
  | muteOnLoss
  /-- GEN_AMPLITUDE (R22). -/
  | genAmplitude
  /-- GEN_PERIOD (R22). -/
  | genPeriod
  /-- GEN_RATE, one of five rates (R22). -/
  | genRate
  /-- GEN_IMPULSE_SPACING (R22). -/
  | genImpulseSpacing
  /-- GEN_IMPULSE_HEIGHT (R22). -/
  | genImpulseHeight
  /-- GEN_SPLICE_SPACING (R22). -/
  | genSpliceSpacing
  /-- NOM (R36). -/
  | nom
  /-- TRACK_SHIFT (R36). -/
  | trackShift
  /-- LOSS_FACTOR (R36). -/
  | lossFactor
  /-- SAMPLES_PER_PERF, P (R46). -/
  | samplesPerPerf
  /-- LOOKAHEAD, D (R63). -/
  | lookahead
  /-- LONG_POLICY: 0 PASS, 1 ATTENUATE, 2 MUTE (R63). -/
  | longPolicy
  /-- OVERRUN_POLICY: 0 PASS, 1 MUTE (R63). -/
  | overrunPolicy
  /-- LINE_PERIOD, Q (R81). -/
  | linePeriod
  /-- SPROCKET_DEPTH (R81). -/
  | sprocketDepth
  /-- LINE_DEPTH (R81). -/
  | lineDepth
  /-- SPROCKET_LEARN_SHIFT (R81). -/
  | sprocketLearnShift
  /-- LINE_LEARN_SHIFT (R81). -/
  | lineLearnShift
  /-- SWAP_CYCLES, W (R81). -/
  | swapCycles
  /-- SPROCKET_MODE: 0 LEARN, 1 HOLD (R76). -/
  | sprocketMode
  /-- LINE_MODE: 0 LEARN, 1 HOLD (R76). -/
  | lineMode
  /-- IMPULSE_FLOOR (R103). -/
  | impulseFloor
  /-- IMPULSE_FACTOR (R103). -/
  | impulseFactor
  /-- ASYM_FLOOR (R103). -/
  | asymFloor
  /-- ASYM_FACTOR (R103). -/
  | asymFactor
  /-- CLICK_ON: 0 OFF, 1 ON (R103). -/
  | clickOn
  /-- MAX_REPAIR (R103). -/
  | maxRepair
  /-- SPLICE_SPAN (R103). -/
  | spliceSpan
  /-- HALF_REPAIR: 0 OFF, 1 ON (R126). -/
  | halfRepair
  /-- HISS_ON: 0 OFF, 1 ON (R136). -/
  | hissOn
  /-- HISS_SPLIT (R136). -/
  | hissSplit
  /-- HISS_ATTACK (R136). -/
  | hissAttack
  /-- HISS_RELEASE (R136). -/
  | hissRelease
  /-- FLOOR_MODE: 0 TRACK, 1 HOLD, 2 FIXED (R136). -/
  | floorMode
  /-- FLOOR_RISE (R136). -/
  | floorRise
  /-- FLOOR_VALUE (R136). -/
  | floorValue
  /-- HISS_OPEN (R136). -/
  | hissOpen
  /-- HISS_DEPTH (R136). -/
  | hissDepth
  /-- BLOCK_SIZE (R143). -/
  | blockSize
  /-- DITHER_SEED (R143). -/
  | ditherSeed
  deriving DecidableEq, Repr

/-- One row of the parameter map. `stoppedOnly` is the STOPPED-only class; the other class is IMMEDIATE (R1). -/
structure ParamRow where
  id : Nat
  low : Int
  high : Int
  default : Int
  stoppedOnly : Bool
  deriving DecidableEq, Repr

/-- The parameter map. -/
def Param.row : Param → ParamRow
  | .railMode => ⟨1, 0, 1, 0, true⟩
  | .source => ⟨2, 0, 1, 0, true⟩
  | .muteOnLoss => ⟨3, 0, 1, 1, false⟩
  | .genAmplitude => ⟨4, 0, 8388607, 1048576, true⟩
  | .genPeriod => ⟨5, 4, 65535, 480, true⟩
  | .genRate => ⟨6, 48000, 768000, 48000, true⟩
  | .genImpulseSpacing => ⟨7, 0, 65535, 0, true⟩
  | .genImpulseHeight => ⟨8, -8388608, 8388607, 0, true⟩
  | .genSpliceSpacing => ⟨9, 0, 65535, 0, true⟩
  | .nom => ⟨16, 200, 20000, 2000, true⟩
  | .trackShift => ⟨17, 0, 6, 3, false⟩
  | .lossFactor => ⟨18, 2, 15, 3, false⟩
  | .samplesPerPerf => ⟨19, 100, 2000, 500, true⟩
  | .lookahead => ⟨32, 256, 1536, 1024, true⟩
  | .longPolicy => ⟨33, 0, 2, 1, false⟩
  | .overrunPolicy => ⟨34, 0, 1, 0, false⟩
  | .linePeriod => ⟨48, 100, 2000, 960, true⟩
  | .sprocketDepth => ⟨49, 0, 256, 256, false⟩
  | .lineDepth => ⟨50, 0, 256, 256, false⟩
  | .sprocketLearnShift => ⟨51, 1, 8, 4, false⟩
  | .lineLearnShift => ⟨52, 1, 8, 4, false⟩
  | .swapCycles => ⟨53, 4, 256, 32, false⟩
  | .sprocketMode => ⟨54, 0, 1, 0, false⟩
  | .lineMode => ⟨55, 0, 1, 0, false⟩
  | .impulseFloor => ⟨64, 0, 65535, 64, false⟩
  | .impulseFactor => ⟨65, 4, 64, 24, false⟩
  | .asymFloor => ⟨66, 0, 65535, 64, false⟩
  | .asymFactor => ⟨67, 4, 64, 16, false⟩
  | .clickOn => ⟨68, 0, 1, 1, false⟩
  | .maxRepair => ⟨69, 8, 48, 32, true⟩
  | .spliceSpan => ⟨70, 0, 48, 24, false⟩
  | .halfRepair => ⟨80, 0, 1, 1, false⟩
  | .hissOn => ⟨96, 0, 1, 1, false⟩
  | .hissSplit => ⟨97, 2, 6, 3, false⟩
  | .hissAttack => ⟨98, 1, 4, 2, false⟩
  | .hissRelease => ⟨99, 4, 12, 8, false⟩
  | .floorMode => ⟨100, 0, 2, 0, false⟩
  | .floorRise => ⟨101, 4, 10, 6, false⟩
  | .floorValue => ⟨102, 1, 134217727, 1600, false⟩
  | .hissOpen => ⟨103, 1, 63, 24, false⟩
  | .hissDepth => ⟨104, 0, 4, 2, false⟩
  | .blockSize => ⟨112, 64, 1024, 256, true⟩
  | .ditherSeed => ⟨113, 0, 16777215, 5921370, false⟩

/-- Every parameter, in the order of the map. -/
def Param.all : List Param :=
  [.railMode, .source, .muteOnLoss, .genAmplitude, .genPeriod,
   .genRate, .genImpulseSpacing, .genImpulseHeight, .genSpliceSpacing, .nom,
   .trackShift, .lossFactor, .samplesPerPerf, .lookahead, .longPolicy,
   .overrunPolicy, .linePeriod, .sprocketDepth, .lineDepth, .sprocketLearnShift,
   .lineLearnShift, .swapCycles, .sprocketMode, .lineMode, .impulseFloor,
   .impulseFactor, .asymFloor, .asymFactor, .clickOn, .maxRepair,
   .spliceSpan, .halfRepair, .hissOn, .hissSplit, .hissAttack,
   .hissRelease, .floorMode, .floorRise, .floorValue, .hissOpen,
   .hissDepth, .blockSize, .ditherSeed]

/-- A parameter's place in the map. -/
def Param.index : Param → Fin 43
  | .railMode => 0
  | .source => 1
  | .muteOnLoss => 2
  | .genAmplitude => 3
  | .genPeriod => 4
  | .genRate => 5
  | .genImpulseSpacing => 6
  | .genImpulseHeight => 7
  | .genSpliceSpacing => 8
  | .nom => 9
  | .trackShift => 10
  | .lossFactor => 11
  | .samplesPerPerf => 12
  | .lookahead => 13
  | .longPolicy => 14
  | .overrunPolicy => 15
  | .linePeriod => 16
  | .sprocketDepth => 17
  | .lineDepth => 18
  | .sprocketLearnShift => 19
  | .lineLearnShift => 20
  | .swapCycles => 21
  | .sprocketMode => 22
  | .lineMode => 23
  | .impulseFloor => 24
  | .impulseFactor => 25
  | .asymFloor => 26
  | .asymFactor => 27
  | .clickOn => 28
  | .maxRepair => 29
  | .spliceSpan => 30
  | .halfRepair => 31
  | .hissOn => 32
  | .hissSplit => 33
  | .hissAttack => 34
  | .hissRelease => 35
  | .floorMode => 36
  | .floorRise => 37
  | .floorValue => 38
  | .hissOpen => 39
  | .hissDepth => 40
  | .blockSize => 41
  | .ditherSeed => 42

/-- The parameter of an id; none for an id that is not in the map (R164). -/
def Param.ofId (id : Nat) : Option Param := Param.all.find? fun p => p.row.id == id

/-- The largest listed GEN_RATE not above v, or 48,000 below it (R22). -/
def applyRate (v : Int) : Int :=
  if 768000 ≤ v then 768000
  else if 384000 ≤ v then 384000
  else if 192000 ≤ v then 192000
  else if 96000 ≤ v then 96000
  else 48000

/-- The value stored for a written one: GEN_RATE by R22, every other parameter limited to its range
(R164, step 3). -/
def Param.applied (p : Param) (v : Int) : Int :=
  if p = .genRate then applyRate v else clampTo p.row.low p.row.high v

/-- A lane's stored parameter values. -/
abbrev Params := Vector Int 43

/-- The stored value of a parameter (R165). -/
def Params.get (ps : Params) (p : Param) : Int := ps[p.index]

/-- Stores a value for one parameter (R164, step 4). -/
def Params.put (ps : Params) (p : Param) (v : Int) : Params := ps.set p.index v

/-- The defaults of the map (R7, R9). -/
def Params.defaults : Params := ⟨(Param.all.map fun p => p.row.default).toArray, rfl⟩

/-- The default gain curve of HISS_OPEN o and HISS_DEPTH d: 64 entries (R135). -/
def gainCurve (o d : Int) : List Int :=
  (List.range 64).map fun k =>
    if o ≤ (k : Int) then 32768 else max (floorShift 32768 d.toNat) (floorDiv (32768 * k) o)

/-- The default predictor (R125). -/
def defaultPredictor : List Int := [8192, -4096, 0, 0, 0, 0, 0, 0]

end Sys2Proof.Machine
end

