-- ==== Sys2Proof/Machine/State.lean ====
section
/-! DEFINITION. Every piece of state the spec gives the PL840, as plain data, the reasons a step can stop,
and the machine right after device reset (R9). -/

namespace Sys2Proof.Machine

/-! ### Codes -/

/-- Lane states (R1). -/
inductive LaneState where
  | disabled | stopped | running
  deriving DecidableEq, Repr

/-- Signal states (R16). -/
inductive SignalState where
  | ok | lost
  deriving DecidableEq, Repr

/-- Tracker states (R25). -/
inductive TrackerState where
  | acquiring | locked | holdover
  deriving DecidableEq, Repr

/-- The quality of a word or an instant; the fourth code of the wire is `dark` (R11). -/
inductive Quality where
  | ok | clipped | dark
  deriving DecidableEq, Repr

/-- The two halves of a dual-rail track. -/
inductive Half where
  | a | b
  deriving DecidableEq, Repr

/-- The two Transport Lines of a lane. -/
inductive EdgeKind where
  | perf | splice
  deriving DecidableEq, Repr

/-- The life cycle of a defect record (R97). -/
inductive RecordState where
  | opened | queued | loaded | inRepair | repaired | long | abandoned
  deriving DecidableEq, Repr

/-- Repair kinds (R112). -/
inductive RepairKind where
  | interpolate | half
  deriving DecidableEq, Repr

/-- The two segment slots (R144). -/
inductive SlotId where
  | a | b
  deriving DecidableEq, Repr

/-- Start conditions of a descriptor (R144). -/
inductive StartCondition where
  | immediate | atPerf | atSplice
  deriving DecidableEq, Repr

/-- Output kinds of a descriptor (R144). -/
inductive OutputKind where
  | restored | original | difference
  deriving DecidableEq, Repr

/-- Word lengths of a descriptor (R144). -/
inductive WordLength where
  | bits16 | bits24
  deriving DecidableEq, Repr

/-- End reasons of a segment (R151). -/
inductive EndReason where
  | length | endCommand | laneStopped
  deriving DecidableEq, Repr

/-! ### The lane front end and the Test Generator (01) -/

/-- The values of the two halves, hA and hB. -/
structure Halves where
  a : Int
  b : Int
  deriving DecidableEq, Repr

/-- A pending A word of a dual-rail lane (R13). -/
structure PendingWord where
  value : Int
  quality : Quality
  deriving DecidableEq, Repr

/-- The Lane Front End: pairing, edges, instant index, signal watch and hold value (R13 to R20). -/
structure FrontEnd where
  pendingA : Option PendingWord
  /-- Edges held for the next instant, in the order they arrived (R20). -/
  heldEdges : List EdgeKind
  /-- The index the next instant to complete receives (R15). -/
  nextIndex : Pos
  signal : SignalState
  darkRun : Nat
  recoveryRun : Nat
  /-- The working value of the latest non-LOST entry of the run (R18). -/
  holdValue : Int
  deriving DecidableEq, Repr

/-- The Test Generator's counts (R22 to R24). -/
structure Generator where
  /-- The phase φ, 0 to GEN_PERIOD − 1 (R23). -/
  phase : Nat
  /-- Instants since the last impulse instant or the start (R23). -/
  impulseCount : Nat
  /-- Instants since the last synthetic perforation, modulo NOM (R24). -/
  perfGap : Nat
  /-- The number j of the next synthetic perforation (R24). -/
  perfCount : Nat
  deriving DecidableEq, Repr

/-! ### Tracking and resampling (02) -/

/-- The Perforation Tracker (R25). -/
structure Tracker where
  state : TrackerState
  /-- E, the smoothed interval in 1/256 instant. -/
  e : Int
  lastMark : Option Pos
  acqRun : Nat
  outlierRun : Nat
  deriving DecidableEq, Repr

/-- The last instant completed, as the resampler keeps it (R39, R40). -/
structure PrevInstant where
  x : Int
  halves : Option Halves
  suspect : Bool
  index : Pos
  deriving DecidableEq, Repr

/-- The Position Resampler (R37). -/
structure Resampler where
  /-- Δ, in 1/65,536 instant. -/
  step : Int
  /-- The read position, modulo 2^48. -/
  rp : BitVec 48
  prev : Option PrevInstant
  nextPos : Pos
  perfMarks : List Pos
  spliceMarks : List Pos
  deriving DecidableEq, Repr

/-! ### The History Ring (03) -/

/-- One position-domain sample with its fields and flags (R48). -/
structure Entry where
  pos : Pos
  /-- The original value. -/
  x : Int
  halves : Option Halves
  /-- The working value. -/
  w : Int
  ts : Nat
  tl : Nat
  perfMark : Bool
  spliceMark : Bool
  locked : Bool
  sensor : Bool
  lost : Bool
  defect : Bool
  repaired : Bool
  departed : Bool
  link : Option RecordId
  deriving DecidableEq, Repr

/-- The ring: its tail of departed entries and its window, each oldest first (R47). -/
structure Ring where
  tail : List Entry
  window : List Entry
  deriving DecidableEq, Repr

/-! ### Hum templates (04) -/

/-- A template's two banks and its cycle count (R64). Its mode is the lane's parameter (R76). -/
structure Template where
  active : List Int
  acc : List Int
  cycles : Nat
  deriving DecidableEq, Repr

/-- The indices of the most recent entry of the run (R66). -/
structure HumIndex where
  ts : Nat
  tl : Nat
  /-- An entry of this run has been indexed. -/
  indexed : Bool
  deriving DecidableEq, Repr

/-! ### Detection and the Defect Queue (05) -/

/-- An item of the detector's history (R82). -/
structure HistItem where
  w : Int
  halves : Option Halves
  absEA : Nat
  absEB : Nat
  deriving DecidableEq, Repr

/-- The Click Detector (R82). Its open record is the queue's newest record when that is OPEN (R97). -/
structure Detector where
  /-- The two most recently examined entries, newest first. -/
  history : List HistItem
  envA : Int
  meanM : Int
  envAa : Int
  settle : Nat
  lastEnd : Option Pos
  nextId : RecordId
  quietA : Nat
  quietB : Nat
  deriving DecidableEq, Repr

/-- A set of causes (R89). -/
structure Causes where
  impulse : Bool
  asymmetry : Bool
  sensor : Bool
  splice : Bool
  deriving DecidableEq, Repr

/-- A defect record (R89), with the Repair Engine's note of the bank that holds its job (R113). -/
structure DefectRecord where
  id : RecordId
  start : Pos
  /-- The record's end, the last position of its span. -/
  stop : Pos
  causes : Causes
  peak : Nat
  overLength : Bool
  sumA : Nat
  sumB : Nat
  state : RecordState
  kind : Option RepairKind
  cleanHalf : Option Half
  holding : Option BankId
  deriving DecidableEq, Repr

/-- The Defect Queue, oldest record first, and its full-notice mark (R97, R99). -/
structure DefectQueue where
  records : List DefectRecord
  fullNotice : Bool
  deriving DecidableEq, Repr

/-! ### Hiss reduction and output (07) -/

/-- The Hiss Reducer (R129). -/
structure HissReducer where
  lp : Int
  /-- Lv, the high-band level. -/
  level : Int
  /-- N, the noise floor. -/
  floor : Int
  /-- gs, the smoothed gain. -/
  gain : Int
  runCount : Nat
  runMin : Option Int
  deriving DecidableEq, Repr

/-- The output former's stream of the RUNNING segment (R137, R140). -/
structure Former where
  /-- The segment position of the next sample. -/
  nextPos : Nat
  /-- The segment position of the first sample of the block being filled. -/
  first : Nat
  block : List Int
  deriving DecidableEq, Repr

/-! ### Segments (08) -/

/-- A segment descriptor (R144). -/
structure Descriptor where
  segId : BitVec 16
  start : StartCondition
  /-- The length in perforations, 0 for an open segment. -/
  length : Nat
  output : OutputKind
  word : WordLength
  dither : Bool
  reports : Bool
  deriving DecidableEq, Repr

/-- A segment report: the first lane position and the 21 counters of R153. -/
structure Report where
  firstPos : Pos
  samples : Nat
  blocksSent : Nat
  blocksDropped : Nat
  repairedInterpolate : Nat
  repairedHalf : Nat
  long : Nat
  abandoned : Nat
  impulse : Nat
  asymmetry : Nat
  sensor : Nat
  splice : Nat
  recordsDropped : Nat
  reportsDropped : Nat
  perfMarks : Nat
  spurious : Nat
  outliers : Nat
  holdovers : Nat
  holdoverInstants : Nat
  pairingErrors : Nat
  lostOutput : Nat
  maxFill : Nat
  deriving DecidableEq, Repr

/-- A segment slot (R144). -/
inductive Slot where
  | empty
  | loaded (d : Descriptor)
  | running (d : Descriptor) (r : Report) (endRequest : Bool) (marks : Nat)
  | finished (d : Descriptor) (r : Report) (reason : EndReason)
  deriving DecidableEq, Repr

/-! ### A lane -/

/-- What a lane's blocks hold for the length of a run. START_LANE sets all of it (R3); while the lane is
not RUNNING it has no defined value and nothing reads it (R9, assumption 5). -/
structure Run where
  generator : Generator
  tracker : Tracker
  resampler : Resampler
  ring : Ring
  hum : HumIndex
  detector : Detector
  queue : DefectQueue
  hiss : HissReducer
  former : Former
  /-- The dither generator's register (R139). -/
  dither : BitVec 24
  deriving DecidableEq, Repr

/-- One lane. -/
structure Lane where
  state : LaneState
  runNumber : BitVec 8
  params : Params
  front : FrontEnd
  run : Run
  sprocket : Template
  line : Template
  /-- The predictor coefficients a1 to a8 (R125). -/
  predictor : List Int
  /-- The gain table G (R135). -/
  gainTable : List Int
  slotA : Slot
  slotB : Slot
  /-- The LOADED slots, earliest loaded first (R145). -/
  loadOrder : List SlotId
  /-- The lane's notice mask, bit i for condition i of the notice format (R172). -/
  mask : BitVec 8
  /-- The lane's Notice Latch, with the same bits (R173). -/
  latch : BitVec 8
  deriving DecidableEq, Repr

/-! ### The Repair Engine (06) -/

/-- The material of a job, by its kind (R107). -/
inductive JobWork where
  /-- Left context from start − 8 to start − 1, right context from end + 1 to end + 8, a1 to a8. -/
  | interpolate (left right coeffs : List Int)
  /-- The clean half (R112), and for each entry of the span: x, w and the value of its clean half. -/
  | half (clean : Half) (span : List (Int × Int × Int))
  deriving DecidableEq, Repr

/-- A repair job (R107). Its results stand in the FINISHED bank. -/
structure Job where
  lane : LaneId
  runNumber : BitVec 8
  recordId : RecordId
  gap : Nat
  work : JobWork
  deriving DecidableEq, Repr

/-- A bank of the engine (R106, R114). -/
inductive Bank where
  | empty
  | loaded (j : Job)
  | running (j : Job)
  | finished (j : Job) (results : List Int)
  deriving DecidableEq, Repr

/-- The Repair Engine (R106). -/
structure Engine where
  banks : Vector Bank 2
  /-- The round-robin pointer. -/
  pointer : LaneId
  /-- The FINISHED banks, first completed first (R117). -/
  finishOrder : List BankId
  deriving DecidableEq, Repr

/-! ### The Link Controller (09) -/

/-- A frame of the Control Link without its check, which the transmitter computes as it sends (R158). -/
structure Frame where
  kind : Byte
  tag : Byte
  lane : Byte
  payload : List Byte
  deriving DecidableEq, Repr

/-- A character of the Control Link: a data byte, or one of the control characters idle (K28.5), start
(K27.7) and end (K29.7) (R158). -/
inductive LinkChar where
  | data (b : Byte)
  | idle
  | start
  | stop
  deriving DecidableEq, Repr

/-- The running disparity of an 8b/10b line: the side to which its ones and zeros last fell (R158,
assumption 34). -/
inductive Disparity where
  | minus
  | plus
  deriving DecidableEq, Repr

/-- The four link statistics (R174). -/
structure LinkStats where
  crcErrors : Nat
  oversize : Nat
  overflows : Nat
  streamDrops : Nat
  deriving DecidableEq, Repr

/-- The Link Controller. -/
structure Link where
  inbound : List Frame
  /-- The reply that waits for room in the outbound queue (R161, R171). -/
  waiting : Option Frame
  /-- The command decoder takes commands; DEVICE_RESET clears it (R10). -/
  taking : Bool
  outbound : List Frame
  stats : LinkStats
  deviceMask : Bool
  deviceLatch : Bool
  /-- The MODEL's own observation: the codes of the frame last sent, from start character to end character,
  or of the idle character last sent (assumption 18). -/
  txLine : List Code
  /-- The transmitter's running disparity (R158, assumption 34). -/
  txDisparity : Disparity
  deriving DecidableEq, Repr

/-! ### The machine -/

/-- The whole part, and the queue of the commands that wait for it, first in, first out. -/
structure State where
  lanes : Vector Lane 8
  engine : Engine
  link : Link
  /-- RESETn is low (R9). -/
  resetHeld : Bool
  pending : List Instr
  deriving DecidableEq, Repr

/-- Why a step faults: the part has no fault. What it cannot do it answers with a status, and damage is
counted or recorded, so no constructor is needed and no step faults (safe: nothing is left out). -/
inductive Fault where
  deriving DecidableEq, Repr

/-- Why a step is refused. -/
inductive Refusal where
  /-- Raised by an arm of exec whose command has no meaning yet, with its mnemonic: no arm of this model
  is such an arm (safe: a step that stops proves nothing about the part). -/
  | notModelled (mnemonic : String)
  deriving DecidableEq, Repr

/-! ### Values at reset -/

/-- The front end after device reset (R9; the next instant index: assumption 5). -/
def FrontEnd.reset : FrontEnd := ⟨none, [], 0, .ok, 0, 0, 0⟩

/-- The run state of a lane that is not RUNNING: the ring and the Defect Queue empty (R9), and for what
has no defined value there, zero and absent (assumption 5). -/
def Run.ended : Run where
  generator := ⟨0, 0, 0, 0⟩
  tracker := ⟨.acquiring, 0, none, 0, 0⟩
  resampler := ⟨0, 0, none, 0, [], []⟩
  ring := ⟨[], []⟩
  hum := ⟨0, 0, false⟩
  detector := ⟨[], 0, 0, 0, 0, none, 0, 0, 0⟩
  queue := ⟨[], false⟩
  hiss := ⟨0, 0, 0, 0, 0, none⟩
  former := ⟨0, 0, []⟩
  dither := 0

/-- A template of n entries, all zero, with its cycle count 0 (R64, R80). -/
def Template.zero (n : Nat) : Template := ⟨List.replicate n 0, List.replicate n 0, 0⟩

/-- A lane after device reset (R9). -/
def Lane.reset : Lane where
  state := .disabled
  runNumber := 0
  params := Params.defaults
  front := FrontEnd.reset
  run := Run.ended
  sprocket := Template.zero 500
  line := Template.zero 960
  predictor := defaultPredictor
  gainTable := gainCurve 24 2
  slotA := .empty
  slotB := .empty
  loadOrder := []
  mask := 0
  latch := 0

/-- The Repair Engine after device reset (R9, R106). -/
def Engine.reset : Engine := ⟨Vector.replicate 2 .empty, 7, []⟩

/-- The Link Controller after device reset (R9, R160, R170, R174; the transmitter's disparity:
assumption 34). -/
def Link.reset : Link := ⟨[], none, true, [], ⟨0, 0, 0, 0⟩, false, false, [], .minus⟩

/-- The machine right after device reset, RESETn high (R9). -/
def State.reset : State where
  lanes := Vector.replicate 8 Lane.reset
  engine := Engine.reset
  link := Link.reset
  resetHeld := false
  pending := []

end Sys2Proof.Machine
end

