-- ==== Sys2Proof/Machine/Operands.lean ====
section
/-! DEFINITION. The wire forms of the part (R158, R159, R175 and the formats section of
09_the_control_link.md): numbers as bytes, the frame check, code fields, and every payload layout. -/

namespace Sys2Proof.Machine

/-! ### Numbers as bytes -/

/-- A field of n bytes, most significant byte first (R175). -/
def be : Nat → Nat → List Byte
  | 0, _ => []
  | n + 1, v => be n (v / 256) ++ [BitVec.ofNat 8 v]

/-- A signed field of n bytes, two's complement (R175). -/
def beInt (n : Nat) (v : Int) : List Byte := be n (v % 256 ^ n).toNat

/-- The number that a field's bytes hold, most significant first (R175). -/
def ofBe (bs : List Byte) : Nat := bs.foldl (fun acc b => 256 * acc + b.toNat) 0

/-- The signed number that a field's bytes hold (R175). -/
def ofBeInt (bs : List Byte) : Int := signedOf (8 * bs.length) (ofBe bs)

/-- The bytes of a field that starts at byte `at` and has n bytes. -/
def field (bs : List Byte) (start n : Nat) : List Byte := (bs.drop start).take n

/-- A one-byte flag: 0 or 1. -/
def boolByte (b : Bool) : Byte := if b then 1 else 0

/-! ### The check -/

/-- Feeds one bit to the check register: x^16 + x^12 + x^5 + 1 (R159). -/
def crcBit (c : BitVec 16) (b : Bool) : BitVec 16 :=
  if c.msb ^^ b then (c <<< 1) ^^^ 0x1021 else c <<< 1

/-- Feeds one byte, most significant bit first (R159). -/
def crcByte (c : BitVec 16) (b : Byte) : BitVec 16 :=
  [7, 6, 5, 4, 3, 2, 1, 0].foldl (fun acc i => crcBit acc (b.getLsbD i)) c

/-- The check over bytes, preset to all ones, sent without inversion (R159). -/
def crc16 (bs : List Byte) : BitVec 16 := bs.foldl crcByte 0xFFFF

/-! ### Frames -/

/-- The bytes a frame takes of the outbound queue (R158, R170). -/
def Frame.bytes (f : Frame) : Nat := f.payload.length + Config.frameOverhead

/-- A frame's bytes from kind through payload (R158). -/
def Frame.body (f : Frame) : List Byte :=
  f.kind :: f.tag :: f.lane :: (be 2 f.payload.length ++ f.payload)

/-- A frame's bytes as sent, check last (R158, R159). -/
def Frame.wire (f : Frame) : List Byte := f.body ++ be 2 (crc16 f.body).toNat

/-- The frame that received bytes hold, if they pass step 2 of R159: at least 7 bytes, the payload
length field right, and the check right. -/
def Frame.ofWire (bs : List Byte) : Option Frame :=
  let n := bs.length - Config.frameOverhead
  if bs.length < Config.frameOverhead then none
  else if ofBe (field bs 3 2) ≠ n then none
  else if ofBe (field bs (5 + n) 2) ≠ (crc16 (bs.take (5 + n))).toNat then none
  else some ⟨bs.getD 0 0, bs.getD 1 0, bs.getD 2 0, field bs 5 n⟩

/-- The lane a lane field names: 0 to 7 (R8). -/
def laneOf (b : Byte) : Option LaneId := if h : b.toNat < 8 then some ⟨b.toNat, h⟩ else none

/-- The lane field of a lane's frames. -/
def laneByte (l : LaneId) : Byte := BitVec.ofNat 8 l.val

/-! ### Statuses (R162) -/

/-- The reply statuses. -/
inductive Status where
  | ok | clamped | wrongState | noSlot | notReady | badLane | badParam | badTable | badRange
  | badLength | unknownKind
  deriving DecidableEq, Repr

/-- The code of a status (R162). -/
def Status.code : Status → Byte
  | .ok => 0
  | .clamped => 1
  | .wrongState => 2
  | .noSlot => 3
  | .notReady => 4
  | .badLane => 5
  | .badParam => 6
  | .badTable => 7
  | .badRange => 8
  | .badLength => 9
  | .unknownKind => 10

/-- OK, or CLAMPED when a value was changed. -/
def okOrClamped (changed : Bool) : Status := if changed then .clamped else .ok

/-! ### Code fields (State codes) -/

def LaneState.code : LaneState → Byte
  | .disabled => 0
  | .stopped => 1
  | .running => 2

def TrackerState.code : TrackerState → Byte
  | .acquiring => 0
  | .locked => 1
  | .holdover => 2

def SignalState.code : SignalState → Byte
  | .ok => 0
  | .lost => 1

def Slot.code : Slot → Byte
  | .empty => 0
  | .loaded _ => 1
  | .running _ _ _ _ => 2
  | .finished _ _ _ => 3

def RecordState.code : RecordState → Byte
  | .opened => 1
  | .queued => 2
  | .loaded => 3
  | .inRepair => 4
  | .repaired => 5
  | .long => 6
  | .abandoned => 7

def EndReason.code : EndReason → Byte
  | .length => 0
  | .endCommand => 1
  | .laneStopped => 2

def SlotId.code : SlotId → Byte
  | .a => 0
  | .b => 1

/-- The slot a byte names; none for a code other than A or B (R150, R152). -/
def slotOf (b : Byte) : Option SlotId := if b = 0 then some .a else if b = 1 then some .b else none

def OutputKind.code : OutputKind → Byte
  | .restored => 0
  | .original => 1
  | .difference => 2

def StartCondition.code : StartCondition → Byte
  | .immediate => 0
  | .atPerf => 1
  | .atSplice => 2

/-- The repair kind byte: 0 absent, 1 INTERPOLATE, 2 HALF. -/
def kindCode : Option RepairKind → Byte
  | none => 0
  | some .interpolate => 1
  | some .half => 2

/-- The clean half byte: 0 absent, 1 A, 2 B. -/
def halfCode : Option Half → Byte
  | none => 0
  | some .a => 1
  | some .b => 2

/-- The causes byte: bit 0 IMPULSE, bit 1 ASYMMETRY, bit 2 SENSOR, bit 3 SPLICE. -/
def Causes.code (c : Causes) : Byte :=
  boolByte c.impulse + 2 * boolByte c.asymmetry + 4 * boolByte c.sensor + 8 * boolByte c.splice

/-! ### The sensor word -/

/-- The fields of a sensor word (Formats, Sensor word). The fourth quality code is DARK (R11), and bits
25 and 24 are ignored (R175). -/
structure SensorFields where
  lane : LaneId
  half : Half
  quality : Quality
  value : Int
  deriving DecidableEq, Repr

/-- The quality of a two-bit code (Formats, Sensor word; R11). -/
def Quality.ofCode (c : BitVec 2) : Quality :=
  if c = 0 then .ok else if c = 1 then .clipped else .dark

/-- Reads a sensor word (Formats, Sensor word). -/
def sensorFields (w : BitVec 32) : SensorFields where
  lane := ⟨(w.extractLsb' 29 3).toNat, (w.extractLsb' 29 3).isLt⟩
  half := if w.getLsbD 28 then .b else .a
  quality := Quality.ofCode (w.extractLsb' 26 2)
  value := (w.extractLsb' 0 24).toInt

/-! ### Descriptors -/

def StartCondition.ofCode (c : Byte) : StartCondition :=
  if c = 0 then .immediate else if c = 1 then .atPerf else .atSplice

def OutputKind.ofCode (c : Byte) : OutputKind :=
  if c = 0 then .restored else if c = 1 then .original else .difference

/-- The descriptor of a LOAD_SEGMENT payload, each code outside its list replaced by the nearest listed
one (R145; Formats, Descriptor). -/
def Descriptor.ofPayload (p : List Byte) : Descriptor where
  segId := BitVec.ofNat 16 (ofBe (field p 0 2))
  start := .ofCode (p.getD 2 0)
  length := ofBe (field p 3 3)
  output := .ofCode (p.getD 6 0)
  word := if p.getD 7 0 = 0 then .bits16 else .bits24
  dither := p.getD 8 0 != 0
  reports := p.getD 9 0 != 0

/-- The descriptor in the layout of the LOAD_SEGMENT payload (Formats, Descriptor). -/
def Descriptor.encode (d : Descriptor) : List Byte :=
  be 2 d.segId.toNat ++ [d.start.code] ++ be 3 d.length ++
    [d.output.code, if d.word = .bits24 then 1 else 0, boolByte d.dither, boolByte d.reports]

/-! ### Payloads of unsolicited frames and reply data -/

/-- The first position of a block in its four bytes; free above them (assumption 12). -/
def firstPosition (p : Nat) : BitVec 32 :=
  if p ≤ Config.counterMax then BitVec.ofNat 32 p else Config.overlongFirstPosition p

/-- One sample in the segment's word length (Formats, Stream block payload). -/
def sampleBytes : WordLength → Int → List Byte
  | .bits16, v => beInt 2 v
  | .bits24, v => beInt 3 v

/-- A stream block of a segment: its first position and its samples in order (R140). -/
def streamBlock (l : LaneId) (d : Descriptor) (first : Nat) (samples : List Int) : Frame where
  kind := 0x40
  tag := 0
  lane := laneByte l
  payload := be 2 d.segId.toNat ++ be 4 (firstPosition first).toNat ++ be 2 samples.length ++
    [if d.word = .bits24 then 24 else 16, d.output.code] ++ samples.flatMap (sampleBytes d.word)

/-- A defect report of a retiring record (R101; Formats, Defect report payload). Repair kind is present
when the final state is REPAIRED, and the clean half when the repair kind is HALF. -/
def defectReport (l : LaneId) (segId : BitVec 16) (r : DefectRecord) : Frame where
  kind := 0x41
  tag := 0
  lane := laneByte l
  payload :=
    let kind := if r.state = .repaired then r.kind else none
    let half := if kind = some .half then r.cleanHalf else none
    be 2 segId.toNat ++ be 2 r.id.toNat ++ be 4 r.start.toNat ++ be 2 (spanLength r.start r.stop) ++
      [r.causes.code, r.state.code, kindCode kind, halfCode half] ++ be 4 r.peak

/-- A Defect Queue item of 27 bytes; none is an empty item (R102; Formats, Defect Queue item). -/
def queueItem : Option DefectRecord → List Byte
  | none => List.replicate 27 0
  | some r =>
    be 2 r.id.toNat ++ be 4 r.start.toNat ++ be 4 r.stop.toNat ++
      [r.causes.code, r.state.code, boolByte r.overLength] ++ be 4 r.peak ++ be 4 r.sumA ++
      be 4 r.sumB ++ [kindCode r.kind, halfCode r.cleanHalf]

/-- The 21 counters of a report in the order of the format (Formats, Segment report). -/
def Report.counters (r : Report) : List Nat :=
  [r.samples, r.blocksSent, r.blocksDropped,
   r.repairedInterpolate, r.repairedHalf, r.long, r.abandoned,
   r.impulse, r.asymmetry, r.sensor, r.splice,
   r.recordsDropped, r.reportsDropped,
   r.perfMarks, r.spurious, r.outliers,
   r.holdovers, r.holdoverInstants,
   r.pairingErrors, r.lostOutput, r.maxFill]

/-- A finished segment's report, 92 bytes (R153; Formats, Segment report). -/
def reportBytes (s : SlotId) (d : Descriptor) (r : Report) (reason : EndReason) : List Byte :=
  [s.code] ++ be 2 d.segId.toNat ++ [reason.code] ++ be 4 r.firstPos.toNat ++
    r.counters.flatMap (be 4)

end Sys2Proof.Machine
end

