-- ==== Sys2Proof/Machine/Flags.lean ====
section
/-! DEFINITION. Notice conditions, masks and latches (R172, R173), and the attribution of counts to the
segment that is RUNNING (R154, R155). -/

namespace Sys2Proof.Machine

/-! ### Notice conditions -/

/-- The eight conditions of a lane (R172). -/
inductive Condition where
  | trackState | signalState | segmentStarted | segmentFinished | queueFull | overrun
  | streamDrop | reportDrop
  deriving DecidableEq, Repr

/-- The bit of a condition in a mask, a latch and a notice (Formats, Notice payload). -/
def Condition.bit : Condition → BitVec 8
  | .trackState => 0x01
  | .signalState => 0x02
  | .segmentStarted => 0x04
  | .segmentFinished => 0x08
  | .queueFull => 0x10
  | .overrun => 0x20
  | .streamDrop => 0x40
  | .reportDrop => 0x80

/-- A condition enters the lane's latch when the lane's mask holds it, and is lost otherwise (R173). -/
def Lane.raise (l : Lane) (c : Condition) : Lane := { l with latch := l.latch ||| (c.bit &&& l.mask) }

/-! ### Slots -/

def Lane.slot (l : Lane) : SlotId → Slot
  | .a => l.slotA
  | .b => l.slotB

def Lane.setSlot (l : Lane) : SlotId → Slot → Lane
  | .a, s => { l with slotA := s }
  | .b, s => { l with slotB := s }

/-- A slot is RUNNING. -/
def Slot.isRunning : Slot → Bool
  | .running _ _ _ _ => true
  | _ => false

/-- The slot that is RUNNING; a lane has at most one (R144). -/
def Lane.runningSlot (l : Lane) : Option SlotId :=
  if l.slotA.isRunning then some .a else if l.slotB.isRunning then some .b else none

/-- Changes the report of a RUNNING slot, and nothing else. -/
def Slot.count (f : Report → Report) : Slot → Slot
  | .running d r e m => .running d (f r) e m
  | s => s

/-- A count of the lane: it goes to the report of the segment that is RUNNING at this moment, and to no
report when none is (R154). -/
def Lane.count (l : Lane) (f : Report → Report) : Lane :=
  match l.runningSlot with
  | some i => l.setSlot i ((l.slot i).count f)
  | none => l

/-- A counter increased by one (R155). -/
def bump (c : Nat) : Nat := satAdd c 1

end Sys2Proof.Machine
end

