-- ==== Sys2Proof/WellFormed.lean ====
section
/-! DEFINITION. Which commands the ports of the part can deliver. -/

namespace Sys2Proof

/-- A command's payload is one the receive framer lets through (R158, R159). -/
def Command.wellFormed (c : Command) : Bool :=
  decide (c.payload.length ≤ Config.inboundPayload)

/-- The command kinds of the catalogue (09, the command catalogue). -/
def commandKinds : List Byte :=
  [0x01, 0x02, 0x03, 0x04, 0x10, 0x11, 0x12, 0x13, 0x14, 0x15, 0x16, 0x17,
   0x20, 0x21, 0x22, 0x23, 0x30, 0x31, 0x32]

/-- A kind that the decoder answers UNKNOWN_KIND: every kind that is no command kind, the outbound
kinds among them (R162). -/
def isUnknownKind (kind : Byte) : Bool := !commandKinds.contains kind

/-- Well-formed commands: every frame's payload is one that can arrive, and UNKNOWN_KIND carries a
kind that is unknown. The other rows admit every operand. -/
def Instr.wellFormed : Instr → Bool
  | .identify c | .deviceReset c | .getLinkStats c | .clearLinkStats c | .enableLane c
  | .disableLane c | .startLane c | .stopLane c | .resetLane c | .defaultLane c | .queryLane c
  | .setNoticeMask c | .setParam c | .getParam c | .readTable c | .writeTable c
  | .loadSegment c | .endSegment c | .collectReport c => c.wellFormed
  | .unknownKind kind c => isUnknownKind kind && c.wellFormed
  | .resetAfterReply | .resetnAsserted | .resetnReleased | .sensorWord _ | .perfEdge _
  | .spliceEdge _ | .generatorInstant _ | .signalLost _ | .signalRecovered _ | .trackLock _
  | .outlierLossOfLock _ | .trackTimeout _ | .recordClose _ | .templateSwap _ | .floorUpdate _
  | .segmentLengthEnd _ | .jobLoad | .jobCompletion | .writeBack | .frameReceived _
  | .replyEntry | .noticeFormed _ | .frameSent => true

end Sys2Proof
end

