-- ==== Sys2Proof/Machine/Ops.lean ====
section
/-! DEFINITION. The named operations the meanings share: a lane with what its events can reach outside it,
the outbound queue's admission, and the taking and answering of a command. -/

namespace Sys2Proof.Machine

/-! ### A lane at work -/

/-- The events that have a row of their own in the table and come about inside another step (95). -/
inductive StepEvent where
  | signalLost | signalRecovered | trackLock | outlierLossOfLock | trackTimeout | recordClose
  | templateSwap | floorUpdate | segmentLengthEnd
  deriving DecidableEq, Repr

/-- One lane inside an event, with all that the event can change beyond it: the outbound queue, the
count of stream drops, and the list of table events that came about (latest first). -/
structure Work where
  id : LaneId
  lane : Lane
  outbound : List Frame
  streamDrops : Nat
  trace : List StepEvent

def Work.setLane (w : Work) (l : Lane) : Work := { w with lane := l }

def Work.setRun (w : Work) (r : Run) : Work := w.setLane { w.lane with run := r }

def Work.setFront (w : Work) (f : FrontEnd) : Work := w.setLane { w.lane with front := f }

/-- The stored value of a parameter of the lane. -/
def Work.p (w : Work) (q : Param) : Int := w.lane.params.get q

/-- Notes that a table event came about. -/
def Work.note (w : Work) (e : StepEvent) : Work := { w with trace := e :: w.trace }

/-- Notes an event when it came about. -/
def Work.noteIf (w : Work) (b : Bool) (e : StepEvent) : Work := if b then w.note e else w

/-- Raises a condition at the lane's latch (R173). -/
def Work.raise (w : Work) (c : Condition) : Work := w.setLane (w.lane.raise c)

/-- Counts for the running segment (R154). -/
def Work.count (w : Work) (f : Report → Report) : Work := w.setLane (w.lane.count f)

/-! ### The outbound queue -/

/-- The bytes of the frames held (R170). -/
def usedBytes (q : List Frame) : Nat := (q.map Frame.bytes).sum

/-- The free room (R170). -/
def freeRoom (q : List Frame) : Nat := Config.outboundSize - usedBytes q

/-- A reply or a notice enters when its bytes fit in the free room (R171). -/
def fits (q : List Frame) (f : Frame) : Bool := decide (f.bytes ≤ freeRoom q)

/-- A stream block or a defect report enters when at least 4,096 bytes stay free after it (R171). -/
def fitsReserve (q : List Frame) (f : Frame) : Bool :=
  decide (f.bytes + Config.outboundReserve ≤ freeRoom q)

/-- A frame enters the outbound queue at its end (R170). -/
def Work.enqueue (w : Work) (f : Frame) : Work := { w with outbound := w.outbound ++ [f] }

/-! ### The lanes of the state -/

/-- Lane l at the start of an event. -/
def State.work (s : State) (l : LaneId) : Work where
  id := l
  lane := s.lanes[l]
  outbound := s.link.outbound
  streamDrops := s.link.stats.streamDrops
  trace := []

def State.setLink (s : State) (k : Link) : State := { s with link := k }

def State.setEngine (s : State) (e : Engine) : State := { s with engine := e }

def State.setLane (s : State) (l : LaneId) (x : Lane) : State :=
  { s with lanes := s.lanes.set l.val x l.isLt }

/-- The state with what an event of a lane made of it. -/
def State.putWork (s : State) (w : Work) : State :=
  (s.setLane w.id w.lane).setLink
    { s.link with
      outbound := w.outbound
      stats := { s.link.stats with streamDrops := w.streamDrops } }

/-- An event of lane l: it is taken whole, and not at all while RESETn is low (R9). -/
def laneEvent (l : LaneId) (f : Work → Work) (s : State) : State :=
  if s.resetHeld then s else s.putWork (f (s.work l))

/-! ### Commands -/

/-- What a command answers: a status and the data that follow it (R162). -/
structure Answer where
  status : Status
  data : List Byte
  deriving DecidableEq, Repr

/-- A refusal: the status alone (R162). -/
def refuse (st : Status) : Answer := ⟨st, []⟩

/-- The reply to a frame: the kind with 0x80 added, the command's tag and lane (R162). -/
def replyTo (f : Frame) (a : Answer) : Frame := ⟨f.kind + 0x80, f.tag, f.lane, a.status.code :: a.data⟩

/-- The frame of a command of a kind. -/
def commandFrame (kind : Byte) (c : Command) : Frame := ⟨kind, c.tag, c.lane, c.payload⟩

/-- The decoder can take this frame now: RESETn is high, DEVICE_RESET has not been taken, the reply before
it has entered the outbound queue, and the frame is the front one of the inbound queue, or arrives at
an empty one (R9, R10, R161; assumption 2). -/
def State.canTake (s : State) (f : Frame) : Bool :=
  !s.resetHeld && s.link.taking && s.link.waiting.isNone &&
    decide (f.payload.length ≤ Config.inboundPayload) &&
    (match s.link.inbound with
     | [] => true
     | g :: _ => decide (g = f))

/-- The frame leaves the inbound queue and its reply waits for room (R161). -/
def State.reply (s : State) (r : Frame) : State :=
  s.setLink { s.link with inbound := s.link.inbound.tail, waiting := some r }

/-- Takes a frame as one event, when the decoder can take it now; nothing happens otherwise
(R161; assumption 3). `body` gives the command's effect and its answer. -/
def takeFrame (f : Frame) (body : State → State × Answer) (s : State) : State :=
  if s.canTake f then (body s).1.reply (replyTo f (body s).2) else s

/-- Takes a command addressed to the device: lane field 255, then the length (R162). -/
def takeDevice (kind : Byte) (len : Nat) (c : Command) (body : State → State × Answer) (s : State) :
    State :=
  takeFrame (commandFrame kind c)
    (fun s =>
      if c.lane ≠ 255 then (s, refuse .badLane)
      else if c.payload.length ≠ len then (s, refuse .badLength)
      else body s)
    s

/-- Takes a command addressed to a lane: a lane field of 0 to 7 (R8), then the length (R162), then the
command's own checks and effect. -/
def takeLane (kind : Byte) (lenOk : Nat → Bool) (c : Command) (body : Work → Work × Answer)
    (s : State) : State :=
  takeFrame (commandFrame kind c)
    (fun s =>
      match laneOf c.lane with
      | none => (s, refuse .badLane)
      | some l =>
        if lenOk c.payload.length then (s.putWork (body (s.work l)).1, (body (s.work l)).2)
        else (s, refuse .badLength))
    s

end Sys2Proof.Machine
end

