-- ==== Sys2Proof/Machine/Hiss.lean ====
section
/-! DEFINITION. The Hiss Reducer at a departure (07, R129 to R134). -/

namespace Sys2Proof.Machine

/-- The level follower's step toward v (R131). -/
def followLevel (level v : Int) (att rel : Nat) : Int :=
  if level < v then level + floorShift (v - level) att else level + floorShift (v - level) rel

/-- The floor at the end of a TRACK run of minimum m (R132). -/
def riseFloor (n m : Int) (nr : Nat) : Int := if m < n then max 1 m else n + floorShift (m - n) nr

/-- The floor update of the present floor mode; true when a TRACK run ends here (R132, R133).
In HOLD and FIXED no run is counted, so a partial run is dropped at the first departure in them
(assumption 11). -/
def HissReducer.updateFloor (h : HissReducer) (mode floorValue : Int) (nr : Nat) :
    HissReducer × Bool :=
  if mode = 0 then
    let m := match h.runMin with
      | none => h.level
      | some m => if h.level < m then h.level else m
    if h.runCount + 1 < Config.floorRun then
      ({ h with runCount := h.runCount + 1, runMin := some m }, false)
    else ({ h with floor := riseFloor h.floor m nr, runCount := 0, runMin := none }, true)
  else if mode = 1 then ({ h with runCount := 0, runMin := none }, false)
  else ({ h with floor := floorValue, runCount := 0, runMin := none }, false)

/-- The gain index k (R134). -/
def gainIndex (level floor : Int) : Int := min 63 (floorDiv (8 * level) floor)

/-- The smoothed gain's step toward the table's gain (R134). -/
def smoothGain (gain target : Int) : Int := gain + floorShift (target - gain) 3

/-- The restored value from the two bands (R134). -/
def restore (lp hb gain : Int) : Int := clamp24 (lp + floorDiv (hb * gain + 16384) 32768)

/-- The band split and the level update (R130, R131). -/
def HissReducer.split (h : HissReducer) (xd : Int) (c att rel : Nat) : HissReducer :=
  let lp := h.lp + floorShift (xd - h.lp) c
  { h with lp := lp, level := followLevel h.level (16 * |xd - lp|) att rel }

/-- The reducer after a departure of value xd under the lane's parameters and gain table, and whether a
floor run ended (R130 to R134). -/
def reduceHiss (l : Lane) (xd : Int) : HissReducer × Bool :=
  let p := l.params.get
  let u := (l.run.hiss.split xd (p .hissSplit).toNat (p .hissAttack).toNat
    (p .hissRelease).toNat).updateFloor (p .floorMode) (p .floorValue) (p .floorRise).toNat
  let target := l.gainTable.getD (gainIndex u.1.level u.1.floor).toNat 0
  ({ u.1 with gain := smoothGain u.1.gain target }, u.2)

/-- The restored value of a departure: with HISS_ON at OFF it is the departing value (R134). -/
def restored (h : HissReducer) (hissOn xd : Int) : Int :=
  if hissOn = 1 then restore h.lp (xd - h.lp) h.gain else xd

/-- Stage 4 of a departure: the reducer takes the departing value (R53). -/
def hissDepart (w : Work) (xd : Int) : Work :=
  (w.setRun { w.lane.run with hiss := (reduceHiss w.lane xd).1 }).noteIf (reduceHiss w.lane xd).2
    .floorUpdate

end Sys2Proof.Machine
end

