-- ==== Sys2Proof/Machine/Hum.lean ====
section
/-! DEFINITION. The Hum Template Unit (04_hum_templates.md): index assignment, subtraction at entry, and
counting, swapping and learning at departure. -/

namespace Sys2Proof.Machine

/-! ### Indices and subtraction -/

/-- The sprocket index after `prev` in a template of p entries (R67). -/
def nextSprocket (p prev : Nat) (perfMark holdover : Bool) : Nat :=
  if perfMark then 0
  else if prev + 1 < p then prev + 1
  else if holdover then 0
  else p - 1

/-- The line index after `prev`, modulo Q (R68). -/
def nextLine (q prev : Nat) : Nat := if prev + 1 < q then prev + 1 else 0

/-- The indices of the next entry of the run: 0 and 0 for the first (R66 to R68). -/
def HumIndex.next (h : HumIndex) (p q : Nat) (perfMark holdover : Bool) : HumIndex :=
  if h.indexed then ⟨nextSprocket p h.ts perfMark holdover, nextLine q h.tl, true⟩
  else ⟨0, 0, true⟩

/-- A template value scaled by depth/256 and rounded to nearest (R69). -/
def scaled (depth t : Int) : Int := floorDiv (depth * t + 128) 256

/-- The working value of an entry that is not LOST (R69). -/
def subtractHum (x hS tS hL tL : Int) : Int := clamp24 (x - scaled hS tS - scaled hL tL)

/-! ### Learning -/

/-- The value an accumulator stands for (R65). -/
def standsFor (acc : Int) : Int := floorDiv (acc + 128) 256

/-- The swap of a whole template (R73). -/
def Template.swap (t : Template) : Template where
  active := t.acc.map fun a => clamp24 (standsFor a)
  acc := t.acc.map fun a => 256 * clamp24 (standsFor a)
  cycles := 0

/-- Counts a cycle boundary, and swaps when the count has reached W; true with a swap (R71, R73). -/
def Template.boundary (t : Template) (w : Int) : Template × Bool :=
  if w ≤ (t.cycles + 1 : Nat) then (t.swap, true) else ({ t with cycles := t.cycles + 1 }, false)

/-- One learning step of an accumulator toward 256 times its target u (R75). -/
def learnStep (acc u : Int) (shift : Nat) : Int := acc + floorShift (256 * u - acc) shift

/-- Teaches the accumulator at one index (R75). -/
def Template.teach (t : Template) (i : Nat) (u : Int) (shift : Nat) : Template :=
  { t with acc := t.acc.set i (learnStep (t.acc.getD i 0) u shift) }

/-- The entry teaches at all: none of SENSOR, LOST and DEFECT (R74). -/
def Entry.teaches (e : Entry) : Bool := !e.sensor && !e.lost && !e.defect

/-- A departure is a cycle boundary of SPROCKET (R72). -/
def Work.sprocketBoundary (w : Work) (e : Entry) : Bool :=
  e.locked && e.perfMark && w.p .sprocketMode == 0

/-- A departure is a cycle boundary of LINE (R72). -/
def Work.lineBoundary (w : Work) (e : Entry) : Bool := e.tl == 0 && w.p .lineMode == 0

/-- The first step of a departure: boundaries and swaps of both templates (R71 to R73). -/
def countBoundaries (w : Work) (e : Entry) : Work :=
  let s := if w.sprocketBoundary e then w.lane.sprocket.boundary (w.p .swapCycles)
    else (w.lane.sprocket, false)
  let l := if w.lineBoundary e then w.lane.line.boundary (w.p .swapCycles) else (w.lane.line, false)
  (w.setLane { w.lane with sprocket := s.1, line := l.1 }).noteIf (s.2 || l.2) .templateSwap

/-- The second step of a departure: each template learns against the other's ACTIVE values as the first
step left them (R71, R74, R75). -/
def teachTemplates (w : Work) (e : Entry) : Work :=
  let uS := clamp24 (e.x - w.lane.line.active.getD e.tl 0)
  let uL := clamp24 (e.x - w.lane.sprocket.active.getD e.ts 0)
  let s := if w.p .sprocketMode == 0 && e.locked && e.teaches
    then w.lane.sprocket.teach e.ts uS (w.p .sprocketLearnShift).toNat else w.lane.sprocket
  let l := if w.p .lineMode == 0 && e.teaches
    then w.lane.line.teach e.tl uL (w.p .lineLearnShift).toNat else w.lane.line
  w.setLane { w.lane with sprocket := s, line := l }

/-- Stage 3 of a departure (R53, R71). -/
def humDepart (w : Work) (e : Entry) : Work := teachTemplates (countBoundaries w e) e

end Sys2Proof.Machine
end

