-- ==== Sys2Proof/Machine/Output.lean ====
section
/-! DEFINITION. The Output Former (07, R137 to R142) and the Segment Slots' judgement of a departure
(08, R146 to R151). -/

namespace Sys2Proof.Machine

/-! ### Dither and word length -/

/-- One step of the dither generator: feedback of the bits of weights 2^23, 2^22, 2^21 and 2^16 (R139). -/
def ditherStep (s : BitVec 24) : BitVec 24 :=
  (s <<< 1) + BitVec.ofNat 24
    (s.getLsbD 23 ^^ s.getLsbD 22 ^^ s.getLsbD 21 ^^ s.getLsbD 16).toNat

/-- n steps of the generator. -/
def ditherSteps : Nat → BitVec 24 → BitVec 24
  | 0, s => s
  | n + 1, s => ditherSteps n (ditherStep s)

/-- The register after one draw: eight steps (R139). The draw is its value modulo 256. -/
def ditherDraw (s : BitVec 24) : BitVec 24 := ditherSteps 8 s

/-- The number a draw returns (R139). -/
def drawn (s : BitVec 24) : Int := (s.toNat % 256 : Nat)

/-- A segment draws dither: a 16-bit segment with dither on (R138, R139). -/
def Descriptor.draws (d : Descriptor) : Bool := d.word = .bits16 && d.dither

/-- The register after a sample of a segment: two draws with dither, none without (R139). -/
def ditherAfter (d : Descriptor) (s : BitVec 24) : BitVec 24 :=
  if d.draws then ditherDraw (ditherDraw s) else s

/-- The dither value dd of a sample, r1 − r2 (R138). -/
def ditherValue (d : Descriptor) (s : BitVec 24) : Int :=
  if d.draws then drawn (ditherDraw s) - drawn (ditherDraw (ditherDraw s)) else 0

/-- The conversion to the segment's word length (R138). -/
def convert (word : WordLength) (val dd : Int) : Int :=
  match word with
  | .bits24 => val
  | .bits16 => clamp16 (floorDiv (val + dd + 128) 256)

/-- The source value of a sample by output kind (R137). -/
def sourceValue (kind : OutputKind) (x y : Int) : Int :=
  match kind with
  | .restored => y
  | .original => x
  | .difference => clamp24 (x - y)

/-! ### Stream blocks -/

/-- A closed block is offered: it enters and counts as sent, or is dropped whole, counted and raised
(R142). -/
def offerBlock (w : Work) (d : Descriptor) (first : Nat) (samples : List Int) : Work :=
  let f := streamBlock w.id d first samples
  if fitsReserve w.outbound f then
    (w.enqueue f).count fun r => { r with blocksSent := bump r.blocksSent }
  else
    ({ w with streamDrops := satAdd w.streamDrops 1 }.count fun r =>
      { r with blocksDropped := bump r.blocksDropped }).raise .streamDrop

/-- The former after one more sample (R137, R140). -/
def Former.append (f : Former) (v : Int) : Former where
  nextPos := f.nextPos + 1
  first := if f.block.isEmpty then f.nextPos else f.first
  block := f.block ++ [v]

/-- The output former takes one sample of the RUNNING segment of descriptor d, and offers the block when
it has BLOCK_SIZE samples (R137, R140). -/
def outputSample (w : Work) (d : Descriptor) (e : Entry) (y : Int) : Work :=
  let s := w.lane.run.dither
  let v := convert d.word (sourceValue d.output e.x y) (ditherValue d s)
  let f := w.lane.run.former.append v
  let w := (w.setRun { w.lane.run with former := f, dither := ditherAfter d s }).count fun r =>
    { r with
      samples := bump r.samples
      lostOutput := if e.lost then bump r.lostOutput else r.lostOutput }
  if w.p .blockSize ≤ (f.block.length : Nat) then
    offerBlock (w.setRun { w.lane.run with former := { f with block := [] } }) d f.first f.block
  else w

/-! ### The end and the start of a segment -/

/-- A RUNNING slot with its report completed (R151, steps 2 and 3). -/
def Slot.finish (reason : EndReason) : Slot → Slot
  | .running d r _ _ => .finished d r reason
  | s => s

/-- The end of the segment in slot i: the final block, the report, FINISHED, the condition (R151, R141). -/
def endSegment (w : Work) (i : SlotId) (reason : EndReason) : Work :=
  match w.lane.slot i with
  | .running d _ _ _ =>
    let f := w.lane.run.former
    let w := if f.block.isEmpty then w else offerBlock w d f.first f.block
    let w := w.setLane (w.lane.setSlot i ((w.lane.slot i).finish reason))
    (w.setRun { w.lane.run with former := ⟨0, 0, []⟩ }).raise .segmentFinished
  | _ => w

/-- A fresh report of a segment that starts at a position (R148). -/
def Report.fresh (p : Pos) : Report :=
  ⟨p, 0, 0, 0, 0, 0, 0, 0, 0, 0, 0, 0, 0, 0, 0, 0, 0, 0, 0, 0, 0, 0⟩

/-- A departing entry meets a descriptor's start condition (R147). -/
def Descriptor.startsAt (d : Descriptor) (e : Entry) : Bool :=
  match d.start with
  | .immediate => true
  | .atPerf => e.perfMark
  | .atSplice => e.spliceMark

/-- The segment in slot i starts at entry e (R148). -/
def startSegment (w : Work) (i : SlotId) (e : Entry) : Work :=
  match w.lane.slot i with
  | .loaded d =>
    let l := w.lane.setSlot i (.running d (Report.fresh e.pos) false 0)
    let w := w.setLane { l with loadOrder := l.loadOrder.filter (· ≠ i) }
    (w.setRun { w.lane.run with former := ⟨0, 0, []⟩ }).raise .segmentStarted
  | _ => w

/-! ### The judgement of a departure -/

/-- Step 1: an end request, or the mark that completes the length, ends the segment before this entry
(R146, R149, R150). -/
def endTest (w : Work) (e : Entry) : Work :=
  match w.lane.runningSlot with
  | none => w
  | some i =>
    match w.lane.slot i with
    | .running d r req marks =>
      if req then endSegment w i .endCommand
      else if e.perfMark then
        if 1 ≤ d.length && decide (d.length ≤ marks + 1) then
          (endSegment w i .length).note .segmentLengthEnd
        else w.setLane (w.lane.setSlot i (.running d r req (marks + 1)))
      else w
    | _ => w

/-- The first LOADED slot, in load order, whose start condition the entry meets (R146, R147). -/
def Lane.slotToStart (l : Lane) (e : Entry) : Option SlotId :=
  l.loadOrder.find? fun i =>
    match l.slot i with
    | .loaded d => d.startsAt e
    | _ => false

/-- Step 2: while no slot is RUNNING, the first LOADED slot whose condition is met starts (R146). -/
def startTest (w : Work) (e : Entry) : Work :=
  match w.lane.runningSlot, w.lane.slotToStart e with
  | none, some i => startSegment w i e
  | _, _ => w

/-- The descriptor of the RUNNING segment. -/
def Lane.runningDescriptor (l : Lane) : Option Descriptor :=
  match l.runningSlot with
  | none => none
  | some i =>
    match l.slot i with
    | .running d _ _ _ => some d
    | _ => none

/-- Step 3: the RUNNING segment takes the entry's sample (R146, R137). -/
def outputStep (w : Work) (e : Entry) (y : Int) : Work :=
  match w.lane.runningDescriptor with
  | some d => outputSample w d e y
  | none => w

/-- Stage 5 of a departure (R53, R146). -/
def judge (w : Work) (e : Entry) (y : Int) : Work :=
  outputStep (startTest (endTest w e) e) e y

end Sys2Proof.Machine
end

