-- ==== Sys2Proof/Machine/Records.lean ====
section
/-! DEFINITION. The Defect Queue's own operations (05, R89 to R101): finding, covering, closing, dropping
and retiring records. -/

namespace Sys2Proof.Machine

/-- The record is not yet resolved: OPEN, QUEUED, LOADED or IN_REPAIR (R51). -/
def RecordState.unresolved : RecordState → Bool
  | .opened | .queued | .loaded | .inRepair => true
  | .repaired | .long | .abandoned => false

/-- The record of an id. -/
def DefectQueue.find (q : DefectQueue) (id : RecordId) : Option DefectRecord :=
  q.records.find? fun r => r.id == id

/-- Puts a record back in the place of the one with its id. -/
def DefectQueue.update (q : DefectQueue) (r : DefectRecord) : DefectQueue :=
  { q with records := q.records.map fun o => if o.id = r.id then r else o }

/-- The OPEN record, which a queue holds at most one of (R97). -/
def DefectQueue.openRecord (q : DefectQueue) : Option DefectRecord :=
  q.records.find? fun r => r.state == .opened

/-- The oldest QUEUED record (R108). -/
def DefectQueue.oldestQueued (q : DefectQueue) : Option DefectRecord :=
  q.records.find? fun r => r.state == .queued

/-- The id of the record whose span holds a position (R48). -/
def DefectQueue.covering (q : DefectQueue) (p : Pos) : Option RecordId :=
  (q.records.find? fun r => inSpan r.start r.stop p).map (·.id)

/-- The record that covers an entry, by the entry's link (R48). -/
def Run.recordOf (r : Run) (e : Entry) : Option DefectRecord := e.link.bind r.queue.find

/-- Covers an entry that is not yet covered, when it lies in the record's span (R91). -/
def Entry.cover (r : DefectRecord) (e : Entry) : Entry :=
  if e.link.isNone && inSpan r.start r.stop e.pos then { e with defect := true, link := some r.id }
  else e

/-- The window's entries that a record's span has come to include are covered (R91). -/
def Run.cover (run : Run) (r : DefectRecord) : Run :=
  { run with ring := { run.ring with window := run.ring.window.map (Entry.cover r) } }

/-- Stores a changed record and covers what its span has come to include. -/
def Run.putRecord (run : Run) (r : DefectRecord) : Run :=
  Run.cover { run with queue := run.queue.update r } r

/-- A record closes with a state: the detector's last end is its end, and the quiet sums are cleared
(R93, R94, R88, R58). -/
def Run.close (run : Run) (r : DefectRecord) (st : RecordState) : Run :=
  { run with
    queue := run.queue.update { r with state := st }
    detector := { run.detector with lastEnd := some r.stop, quietA := 0, quietB := 0 } }

/-- A drop: a record that would open while the queue is full (R99). -/
def dropRecord (w : Work) : Work :=
  let w := w.count fun r => { r with recordsDropped := bump r.recordsDropped }
  if w.lane.run.queue.fullNotice then w
  else
    (w.raise .queueFull).setRun
      { w.lane.run with queue := { w.lane.run.queue with fullNotice := true } }

/-- The outcome and cause counters that a retiring record adds to (R100). -/
def Report.retired (r : DefectRecord) (t : Report) : Report :=
  let t := match r.state, r.kind with
    | .repaired, some .half => { t with repairedHalf := bump t.repairedHalf }
    | .repaired, _ => { t with repairedInterpolate := bump t.repairedInterpolate }
    | .long, _ => { t with long := bump t.long }
    | .abandoned, _ => { t with abandoned := bump t.abandoned }
    | _, _ => t
  { t with
    impulse := if r.causes.impulse then bump t.impulse else t.impulse
    asymmetry := if r.causes.asymmetry then bump t.asymmetry else t.asymmetry
    sensor := if r.causes.sensor then bump t.sensor else t.sensor
    splice := if r.causes.splice then bump t.splice else t.splice }

/-- A defect report is offered: it enters, or is dropped, counted and raised (R101). -/
def offerReport (w : Work) (segId : BitVec 16) (r : DefectRecord) : Work :=
  let f := defectReport w.id segId r
  if fitsReserve w.outbound f then w.enqueue f
  else (w.count fun t => { t with reportsDropped := bump t.reportsDropped }).raise .reportDrop

/-- The queue without a record; the full-notice mark is cleared below 32 records (R100, R99). -/
def DefectQueue.remove (q : DefectQueue) (id : RecordId) : DefectQueue :=
  let rs := q.records.filter fun r => r.id ≠ id
  ⟨rs, q.fullNotice && !decide (rs.length < Config.queueCapacity)⟩

/-- Retirement of a record: counted, reported when the running segment asks for it, and removed (R100).
`running` is the descriptor of the segment that is RUNNING after stage 5. -/
def retire (w : Work) (running : Option Descriptor) (r : DefectRecord) : Work :=
  let w := w.count (Report.retired r)
  let w := match running with
    | some d => if d.reports then offerReport w d.segId r else w
    | none => w
  w.setRun { w.lane.run with queue := w.lane.run.queue.remove r.id }

end Sys2Proof.Machine
end

