-- ==== Sys2Proof/Machine/Departure.lean ====
section
/-! DEFINITION. Departures from the History Ring: the conditions, the six stages, and the bursts that one
event releases (03, R51 to R56, R176). -/

namespace Sys2Proof.Machine

/-- The ring fill: tail and window together (R47). -/
def Ring.fill (r : Ring) : Nat := r.tail.length + r.window.length

/-- Stage 1 of a departure: the oldest window entry passes to the tail, and the ninth oldest tail entry is
released (R53, R55). -/
def Ring.passToTail (r : Ring) (e : Entry) (rest : List Entry) : Ring where
  tail :=
    let t := r.tail ++ [{ e with departed := true }]
    if Config.tailCapacity < t.length then t.tail else t
  window := rest

/-- LONG_POLICY on a working value (R54). -/
def longValue (policy w : Int) : Int :=
  if policy = 0 then w else if policy = 1 then floorDiv w 4 else 0

/-- OVERRUN_POLICY on a working value (R54). -/
def overrunValue (policy w : Int) : Int := if policy = 0 then w else 0

/-- The departing value of an entry and the record that covers it (R54). -/
def departingValue (l : Lane) (e : Entry) (r : Option DefectRecord) : Int :=
  if e.repaired then e.w
  else match r with
    | none => e.w
    | some r =>
      match r.state with
      | .long => longValue (l.params.get .longPolicy) e.w
      | .abandoned => overrunValue (l.params.get .overrunPolicy) e.w
      | _ => e.w

/-- Stage 6: the record whose last entry this is retires (R53, R56). -/
def retireAt (w : Work) (e : Entry) : Option DefectRecord → Work
  | some r => if e.pos = r.stop then retire w w.lane.runningDescriptor r else w
  | none => w

/-- Stages 2 to 6 of the departure of entry e with its covering record (R53). -/
def departStages (w : Work) (e : Entry) (r : Option DefectRecord) : Work :=
  let xd := departingValue w.lane e r
  let w := hissDepart (humDepart w e) xd
  retireAt (judge w e (restored w.lane.run.hiss (w.p .hissOn) xd)) e r

/-- The departure of the oldest window entry, whole (R53). -/
def depart (w : Work) : Work :=
  match w.lane.run.ring.window with
  | [] => w
  | e :: rest =>
    departStages (w.setRun { w.lane.run with ring := w.lane.run.ring.passToTail e rest })
      { e with departed := true } (w.lane.run.recordOf e)

/-- The oldest window entry is held by an unresolved record (R51). -/
def Run.held (r : Run) : Bool :=
  match r.ring.window with
  | [] => false
  | e :: _ => (r.recordOf e).any fun q => q.state.unresolved

/-- The conditions of R51: more than D entries in the window, and the oldest not held. -/
def Work.mayDepart (w : Work) : Bool :=
  decide (w.p .lookahead < (w.lane.run.ring.window.length : Nat)) && !w.lane.run.held

/-- Departures while the conditions hold, at most n of them. -/
def departUpTo : Nat → Work → Work
  | 0, w => w
  | n + 1, w => if w.mayDepart then departUpTo n (depart w) else w

/-- The departure test: every departure the conditions allow (R52). Each takes one entry out of the
window, so its length bounds their number. -/
def departureTest (w : Work) : Work := departUpTo w.lane.run.ring.window.length w

end Sys2Proof.Machine
end

