-- ==== Sys2Proof/Machine/Detector.lean ====
section
/-! DEFINITION. The Click Detector's examination of a new entry (05, R83 to R96). -/

namespace Sys2Proof.Machine

/-! ### Measures -/

/-- What the detector measures of an entry (R84, R85, R96). -/
structure Measures where
  /-- The second difference, absent without a full history (R84). -/
  e : Option Int
  /-- 16·(hA − hB), absent on a single-rail lane (R85). -/
  dlt16 : Option Int
  absEA : Nat
  absEB : Nat
  deriving DecidableEq, Repr

/-- A second difference (R84, R96). -/
def secondDiff (v0 v1 v2 : Int) : Int := v0 - 2 * v1 + v2

/-- The measures of an entry, from the history as it stands before it (R83, R84, R85, R96). -/
def measure (d : Detector) (n : Entry) : Measures :=
  let dlt16 := n.halves.map fun h => 16 * (h.a - h.b)
  match d.history with
  | i1 :: i2 :: _ =>
    let e := some (secondDiff n.w i1.w i2.w)
    match n.halves, i1.halves, i2.halves with
    | some h0, some h1, some h2 =>
      ⟨e, dlt16, (secondDiff h0.a h1.a h2.a).natAbs, (secondDiff h0.b h1.b h2.b).natAbs⟩
    | _, _, _ => ⟨e, dlt16, 0, 0⟩
  | _ => ⟨none, dlt16, 0, 0⟩

/-- A test of a measure against its floor and its running mean: 16·floor and factor quarters
(R84, R85). -/
def passes (v floor factor mean : Int) : Bool :=
  decide (16 * floor < v) && decide (factor * mean < 4 * v)

/-- The causes of an examined entry (R86). -/
def firingCauses (l : Lane) (settling : Bool) (m : Measures) (n : Entry) : Causes :=
  let p := l.params.get
  let d := l.run.detector
  let tested := !settling && p .clickOn == 1
  { sensor := n.sensor
    impulse := tested && m.e.any fun e =>
      passes (16 * |e|) (p .impulseFloor) (p .impulseFactor) d.envA
    asymmetry := tested && m.dlt16.any fun v =>
      passes |v - d.meanM| (p .asymFloor) (p .asymFactor) d.envAa
    splice := false }

/-- The entry fires: it has at least one cause (R83). -/
def Causes.fires (c : Causes) : Bool := c.impulse || c.asymmetry || c.sensor

/-- The union of two sets of causes. -/
def Causes.union (c d : Causes) : Causes :=
  ⟨c.impulse || d.impulse, c.asymmetry || d.asymmetry, c.sensor || d.sensor, c.splice || d.splice⟩

/-- The envelopes and the mean after an entry that did not fire (R87). -/
def Detector.learn (d : Detector) (m : Measures) : Detector :=
  let d := match m.e with
    | some e => { d with envA := d.envA + floorShift (16 * |e| - d.envA) 6 }
    | none => d
  match m.dlt16 with
  | some v =>
    { d with
      meanM := d.meanM + floorShift (v - d.meanM) 8
      envAa := d.envAa + floorShift (|v - d.meanM| - d.envAa) 6 }
  | none => d

/-- The entry becomes the newest item of the history (R83, step 7). -/
def Detector.remember (d : Detector) (m : Measures) (n : Entry) : Detector :=
  { d with history := ⟨n.w, n.halves, m.absEA, m.absEB⟩ :: d.history.take 1 }

/-! ### Spans -/

/-- What an examined entry asks of the records: its firing, and its splice span (R90, R92, R95). -/
structure Demand where
  fires : Bool
  /-- SPLICE_SPAN when the entry carries SPLICE_MARK, otherwise 0. -/
  splice : Nat
  causes : Causes
  peak : Nat
  deriving DecidableEq, Repr

/-- The demand of an examined entry with its causes and measures. -/
def demandOf (l : Lane) (c : Causes) (m : Measures) (n : Entry) : Demand where
  fires := c.fires
  splice := if n.spliceMark then (l.params.get .spliceSpan).toNat else 0
  causes := { c with splice := n.spliceMark && decide (0 < l.params.get .spliceSpan) }
  peak := if c.fires then (m.e.map Int.natAbs).getD 0 else 0

/-- The entry asks something of the records. -/
def Demand.asks (d : Demand) : Bool := d.fires || decide (0 < d.splice)

/-- The last position the demand at entry n reaches, counted from n: 2 for a firing, S − 1 for a splice
(R90, R92, R95). -/
def Demand.reach (d : Demand) : Int := max (if d.fires then 2 else 0) ((d.splice : Int) - 1)

/-- How far before n a record that opens there may start: `back`, but not at or below the last end. The
limit is tested on the difference of n and the last end modulo 2^32, and bites only when the last end is
n − 1 or n − 2, not when it is n itself, a whole turn of the positions ago (R90). -/
def limitBack (lastEnd : Option Pos) (n : Pos) (back : Nat) : Nat :=
  match lastEnd with
  | none => back
  | some e => if e = n then back else min back ((n - e).toNat - 1)

/-- The start of a record that the demand of entry n opens. For a firing it is n − 2, or 0 for the run's
first two entries; for a splice alone it is n; each limited by the last end (R90, R95). `older` is the
number of entries the ring holds before n, less than 2 only for the run's first two (assumption 19). -/
def openingStart (fires : Bool) (lastEnd : Option Pos) (n : Pos) (older : Nat) : Pos :=
  posAdd n (-(limitBack lastEnd n (if fires then min 2 older else 0) : Nat))

/-- The half-energy sums over the examined entries from start to n (R96): n's own, and those of the
history's items that lie in the span. -/
def openingSums (d : Detector) (m : Measures) (start n : Pos) : Nat × Nat :=
  let items := d.history.take (n - start).toNat
  (satAdd ((items.map (·.absEA)).sum) m.absEA, satAdd ((items.map (·.absEB)).sum) m.absEB)

/-- The record's length exceeds MAX_REPAIR (R93). -/
def tooLong (l : Lane) (start stop : Pos) : Bool :=
  decide (l.params.get .maxRepair < (spanLength start stop : Nat))

/-! ### Record actions -/

/-- A record opens at the end of the queue, or the opening is a drop when the queue holds 32 (R90, R99).
Its entries are covered, and the over-length test is made (R91, R93). -/
def openRecord (w : Work) (start stop : Pos) (causes : Causes) (peak : Nat) (sums : Nat × Nat) :
    Work :=
  let run := w.lane.run
  if Config.queueCapacity ≤ run.queue.records.length then dropRecord w
  else
    let r : DefectRecord :=
      { id := run.detector.nextId, start, stop, causes, peak
        overLength := tooLong w.lane start stop
        sumA := sums.1, sumB := sums.2
        state := .opened, kind := none, cleanHalf := none, holding := none }
    w.setRun (Run.cover
      { run with
        queue := { run.queue with records := run.queue.records ++ [r] }
        detector := { run.detector with nextId := run.detector.nextId + 1, quietA := 0, quietB := 0 } }
      r)

/-- The opening at entry n while no record is open: nothing when n is covered (R90, R95). -/
def openAt (w : Work) (n : Entry) (covered : Bool) (m : Measures) (d : Demand) : Work :=
  let det := w.lane.run.detector
  let older := w.lane.run.ring.tail.length + w.lane.run.ring.window.length - 1
  let start := openingStart d.fires det.lastEnd n.pos older
  if covered || !d.asks then w
  else openRecord w start (posAdd n.pos d.reach) d.causes d.peak (openingSums det m start n.pos)

/-- The part of a splice beyond the end of the record that the cap has closed opens a new record (R94;
assumption 10). -/
def openRemainder (w : Work) (n : Entry) (capEnd : Pos) (d : Demand) : Work :=
  if (posDiff capEnd n.pos) < (d.splice : Int) - 1 then
    openRecord w (posAdd capEnd 1) (posAdd n.pos ((d.splice : Int) - 1))
      ⟨false, false, false, true⟩ 0 (0, 0)
  else w

/-- The sums of the open record after entry n: the quiet sums join when n lies in the span, and n's own
values join the sums, or the quiet sums when n lies beyond the end (R96). -/
def addEnergy (run : Run) (r : DefectRecord) (m : Measures) (n : Pos) : DefectRecord × Detector :=
  let d := run.detector
  let fromStart := posDiff n r.start
  if fromStart < 0 then (r, d)
  else if fromStart < spanLength r.start r.stop then
    ({ r with
       sumA := satAdd (satAdd r.sumA d.quietA) m.absEA
       sumB := satAdd (satAdd r.sumB d.quietB) m.absEB },
     { d with quietA := 0, quietB := 0 })
  else
    (r, { d with quietA := satAdd d.quietA m.absEA, quietB := satAdd d.quietB m.absEB })

/-- The open record r after the demand at n, before the cap: its end, causes and peak (R92, R95), the
over-length mark (R93), and the cap on its end (R94). -/
def extended (l : Lane) (r : DefectRecord) (n : Pos) (d : Demand) : DefectRecord :=
  let wanted := max (posDiff r.stop r.start) (posDiff n r.start + d.reach)
  let stop := posAdd r.start (min wanted (Config.longestRecord - 1 : Nat))
  { r with
    stop := stop
    causes := r.causes.union d.causes
    peak := max r.peak d.peak
    overLength := r.overLength || tooLong l r.start stop }

/-- The demand at n would take the open record beyond 1,024 entries (R94). -/
def overCap (r : DefectRecord) (n : Pos) (d : Demand) : Bool :=
  decide (((Config.longestRecord - 1 : Nat) : Int) < posDiff n r.start + d.reach)

/-- The demand of entry n on the open record r: it is extended, and at the cap it closes as LONG and what
reaches beyond opens a new record (R92, R94, R95). -/
def extendRecord (w : Work) (r : DefectRecord) (n : Entry) (m : Measures) (d : Demand) : Work :=
  let a := addEnergy w.lane.run (extended w.lane r n.pos d) m n.pos
  let run := Run.putRecord { w.lane.run with detector := a.2 } a.1
  if overCap r n.pos d then
    let w := w.setRun (run.close a.1 .long)
    if 0 < posDiff n.pos a.1.stop then openAt w n false m d else openRemainder w n a.1.stop d
  else w.setRun run

/-- Step 4 of an examination: the records after the entry's firing and splice (R83, R90 to R96). Of a splice
entry that a closed record covers while a record is open, R95's first item says that the open record is
extended and its third that nothing changes: the model extends it (DESIGN CHOICE, assumption 36). -/
def recordActions (w : Work) (n : Entry) (m : Measures) (d : Demand) : Work :=
  match w.lane.run.queue.openRecord with
  | some r =>
    if d.asks then extendRecord w r n m d
    else
      let a := addEnergy w.lane.run r m n.pos
      w.setRun { w.lane.run with queue := w.lane.run.queue.update a.1, detector := a.2 }
  | none => openAt w n n.link.isSome m d

/-- Step 5: the open record closes at the entry eight positions beyond its end, as QUEUED, or as LONG with
the over-length mark (R93). -/
def closingTest (w : Work) (n : Pos) : Work :=
  match w.lane.run.queue.openRecord with
  | some r =>
    if n = posAdd r.stop Config.quietToClose then
      (w.setRun (w.lane.run.close r (if r.overLength then .long else .queued))).note .recordClose
    else w
  | none => w

/-- The examination of an entry that is not LOST (R83). -/
def examineEntry (w : Work) (n : Entry) : Work :=
  let d := w.lane.run.detector
  let m := measure d n
  let c := firingCauses w.lane (decide (0 < d.settle)) m n
  let w := w.setRun { w.lane.run with detector := { d with settle := d.settle - 1 } }
  let w := closingTest (recordActions w n m (demandOf w.lane c m n)) n.pos
  let det := w.lane.run.detector
  let det := if c.fires then det else det.learn m
  w.setRun { w.lane.run with detector := det.remember m n }

/-- Stage 3 of an entry event: a LOST entry is not examined (R49, R83). -/
def examine (w : Work) (n : Entry) : Work := if n.lost then w else examineEntry w n

/-- At a loss of signal the open record closes as LONG (R88). -/
def closeAtLoss (w : Work) : Work :=
  match w.lane.run.queue.openRecord with
  | some r => w.setRun (w.lane.run.close r .long)
  | none => w

/-- At a recovery the history is emptied and the settle count is set (R88). -/
def Detector.recover (d : Detector) : Detector :=
  { d with history := [], settle := Config.settleCount }

end Sys2Proof.Machine
end

