-- ==== Sys2Proof/Machine/Ring.lean ====
section
/-! DEFINITION. The entry event of the History Ring (03, R49, R50, R58 to R60) and the effects of a change
of signal state on the detector and the ring (R17, R88). -/

namespace Sys2Proof.Machine

/-- What the resampler hands on (R42). The tracker state is kept for the sprocket index alone. -/
structure Output where
  pos : Pos
  x : Int
  halves : Option Halves
  sensor : Bool
  lost : Bool
  locked : Bool
  perfMark : Bool
  spliceMark : Bool
  holdover : Bool
  deriving DecidableEq, Repr

/-! ### Overrun -/

/-- The record that covers the oldest window entry, when it is unresolved (R58). -/
def Run.holder (r : Run) : Option DefectRecord :=
  match r.ring.window with
  | [] => none
  | e :: _ => (r.recordOf e).filter fun q => q.state.unresolved

/-- A record is made ABANDONED; an OPEN one is closed first (R58). -/
def Run.abandon (run : Run) (r : DefectRecord) : Run :=
  if r.state = .opened then run.close r .abandoned
  else { run with queue := run.queue.update { r with state := .abandoned } }

/-- One step of making room: a record that holds the oldest window entry is abandoned and OVERRUN raised,
and the entry departs (R58). -/
def makeRoomOnce (w : Work) : Work :=
  match w.lane.run.holder with
  | some r => depart ((w.setRun (w.lane.run.abandon r)).raise .overrun)
  | none => depart w

/-- Stage 1 of an entry event: steps of making room until the ring holds fewer than 2,048 entries, at
most n of them (R49, R58, R59). -/
def makeRoom : Nat → Work → Work
  | 0, w => w
  | n + 1, w =>
    if w.lane.run.ring.fill < Config.ringCapacity then w else makeRoom n (makeRoomOnce w)

/-! ### Entry -/

/-- The working value formed for an output with its indices: hum subtraction (R69), or for a LOST output
the mute or hold value (R18, R70). -/
def workingValue (l : Lane) (o : Output) (h : HumIndex) : Int :=
  let p := l.params.get
  if o.lost then (if p .muteOnLoss = 1 then 0 else l.front.holdValue)
  else subtractHum o.x (p .sprocketDepth) (l.sprocket.active.getD h.ts 0) (p .lineDepth)
    (l.line.active.getD h.tl 0)

/-- The indices of an output (R66 to R68). -/
def indicesOf (l : Lane) (o : Output) : HumIndex :=
  l.run.hum.next (l.params.get .samplesPerPerf).toNat (l.params.get .linePeriod).toNat o.perfMark
    o.holdover

/-- The new entry of an output, covered when a record's span already holds its position (R48). -/
def newEntry (q : DefectQueue) (o : Output) (h : HumIndex) (w : Int) : Entry :=
  let link := q.covering o.pos
  { pos := o.pos, x := o.x, halves := o.halves, w, ts := h.ts, tl := h.tl
    perfMark := o.perfMark, spliceMark := o.spliceMark, locked := o.locked
    sensor := o.sensor, lost := o.lost
    defect := link.isSome, repaired := false, departed := false, link }

/-- The Hum Template Unit takes an output: its indices, and the hold value of a non-LOST one (R66, R18). -/
def indexOutput (w : Work) (o : Output) : Work :=
  let h := indicesOf w.lane o
  let v := workingValue w.lane o h
  let w := w.setRun { w.lane.run with hum := h }
  if o.lost then w else w.setFront { w.lane.front with holdValue := v }

/-- Stage 2: the entry enters the window, and the running segment's maximum ring fill rises (R49, R50). The
segment is the one RUNNING at stage 2, as R154 has it, also when a departure of stage 1 of the same event
has ended or started a segment (DEDUCED, assumption 32). -/
def placeEntry (w : Work) (e : Entry) : Work :=
  let ring := { w.lane.run.ring with window := w.lane.run.ring.window ++ [e] }
  (w.setRun { w.lane.run with ring := ring }).count fun r => { r with maxFill := max r.maxFill ring.fill }

/-- The entry event of one resampler output (R49). The working value is formed from the ACTIVE banks as they
stand when the output is handed on, before stage 1. -/
def entryEvent (w : Work) (o : Output) : Work :=
  let h := indicesOf w.lane o
  let v := workingValue w.lane o h
  let w := indexOutput w o
  let w := makeRoom w.lane.run.ring.window.length w
  let e := newEntry w.lane.run.queue o h v
  departureTest (examine (placeEntry w e) e)

/-! ### Changes of signal state -/

/-- The change to SIGNAL_LOST: the condition, the open record closed as LONG, and the departure test
(R16, R17, R88). -/
def onSignalLost (w : Work) : Work :=
  let w := (w.raise .signalState).note .signalLost
  match w.lane.run.queue.openRecord with
  | some _ => departureTest (closeAtLoss w)
  | none => w

/-- The change to SIGNAL_OK (R16, R17, R88). -/
def onSignalRecovered (w : Work) : Work :=
  let w := (w.raise .signalState).note .signalRecovered
  w.setRun { w.lane.run with detector := w.lane.run.detector.recover }

end Sys2Proof.Machine
end

