-- ==== Sys2Proof/Machine/Tracker.lean ====
section
/-! DEFINITION. The Perforation Tracker (02, R25 to R36). -/

namespace Sys2Proof.Machine

/-- How the tracker takes a PERF edge (R27 to R31, R33). -/
inductive Verdict where
  | firstMark | acquiringMark | spurious | normal | outlier
  deriving DecidableEq, Repr

/-- The clamp of E to [128·NOM, 512·NOM] (R25). -/
def clampE (nom e : Int) : Int := clampTo (128 * nom) (512 * nom) e

/-- The interval in 1/256 instants from the last mark m to index k, modulo 2^32 instants. -/
def interval256 (k m : Pos) : Int := 256 * ((k - m).toNat : Nat)

/-- A later edge handled in ACQUIRING with 256·N (R28). The run of matching intervals stays within 0 to 4
(R25), also when it was 4 already (assumption 7). -/
def Tracker.acquire (t : Tracker) (nom : Int) (k : Pos) (n256 : Int) : Tracker :=
  let run := if |n256 - t.e| ≤ floorDiv t.e 8 then min (t.acqRun + 1) Config.runToChange else 0
  let t' := { t with e := clampE nom n256, lastMark := some k, acqRun := run }
  if Config.runToChange ≤ run then { t' with state := .locked, outlierRun := 0 } else t'

/-- The class of an edge handled in LOCKED (R29). -/
def classify (e n256 : Int) : Verdict :=
  if n256 < floorDiv e 2 then .spurious
  else if floorDiv (3 * e) 4 ≤ n256 ∧ n256 ≤ floorDiv (5 * e) 4 then .normal
  else .outlier

/-- An edge of a class handled in LOCKED (R29 to R31). -/
def Tracker.lockedEdge (t : Tracker) (nom : Int) (shift : Nat) (k : Pos) (n256 : Int) :
    Verdict → Tracker
  | .normal =>
    { t with
      e := clampE nom (t.e + floorShift (n256 - t.e) shift)
      lastMark := some k
      outlierRun := 0 }
  | .outlier =>
    if Config.runToChange ≤ t.outlierRun + 1 then
      { t with state := .acquiring, lastMark := some k, acqRun := 0, outlierRun := t.outlierRun + 1 }
    else { t with lastMark := some k, outlierRun := t.outlierRun + 1 }
  | _ => t

/-- The tracker's handling of one PERF edge attached to instant k (R26, first stage). The edge that ends a
HOLDOVER is the first mark of a new acquisition, and like every first mark it changes neither E nor the
acquisition run (R27, R33). -/
def Tracker.onEdge (t : Tracker) (nom : Int) (shift : Nat) (k : Pos) : Tracker × Verdict :=
  match t.state, t.lastMark with
  | .holdover, _ => ({ t with state := .acquiring, lastMark := some k }, .firstMark)
  | _, none => ({ t with lastMark := some k }, .firstMark)
  | .acquiring, some m => (t.acquire nom k (interval256 k m), .acquiringMark)
  | .locked, some m =>
    let v := classify t.e (interval256 k m)
    (t.lockedEdge nom shift k (interval256 k m) v, v)

/-- The elapsed count a at instant k (R32). -/
def Tracker.elapsed (t : Tracker) (k : Pos) : Int :=
  match t.lastMark with
  | some m => ((k - m).toNat : Nat)
  | none => (k.toNat + 1 : Nat)

/-- The second stage of R26 at instant k: the timeout test of R32; in HOLDOVER it is not made (R33). -/
def Tracker.timeout (t : Tracker) (lossFactor : Int) (k : Pos) : Tracker :=
  if t.state ≠ .holdover ∧ lossFactor * t.e < 256 * t.elapsed k then
    match t.state with
    | .locked => { t with state := .holdover, outlierRun := 0 }
    | _ => { t with state := .holdover, acqRun := 0 }
  else t

/-- What a PERF edge of a class adds to the report (R35). -/
def Report.edge (v : Verdict) (r : Report) : Report :=
  { r with
    perfMarks := if v = .spurious then r.perfMarks else bump r.perfMarks
    spurious := if v = .spurious then bump r.spurious else r.spurious
    outliers := if v = .outlier then bump r.outliers else r.outliers }

/-- Stores the tracker, raising TRACK_STATE on a change of state (R34). -/
def Work.putTracker (w : Work) (t : Tracker) : Work :=
  let changed := decide (t.state ≠ w.lane.run.tracker.state)
  let w := w.setRun { w.lane.run with tracker := t }
  if changed then w.raise .trackState else w

/-- One PERF edge attached to instant k: the count, the tracker, the condition, and the mark for the
resampler (R26, R34, R35, R44). -/
def trackEdge (k : Pos) (w : Work) : Work :=
  let t := w.lane.run.tracker
  let a := t.onEdge (w.p .nom) (w.p .trackShift).toNat k
  let w := (w.count (Report.edge a.2)).putTracker a.1
  let marks := w.lane.run.resampler.perfMarks
  let marks := if a.2 = .spurious ∨ k ∈ marks then marks else marks ++ [k]
  let w := w.setRun { w.lane.run with resampler := { w.lane.run.resampler with perfMarks := marks } }
  (w.noteIf (decide (t.state ≠ .locked ∧ a.1.state = .locked)) .trackLock).noteIf
    (decide (t.state = .locked ∧ a.1.state = .acquiring)) .outlierLossOfLock

/-- The PERF edges of an instant, in the order they were attached: n of them (R26). -/
def trackEdges (k : Pos) : Nat → Work → Work
  | 0, w => w
  | n + 1, w => trackEdges k n (trackEdge k w)

/-- The second stage at instant k with its counts (R26, R32, R34, R35). -/
def trackTimeout (k : Pos) (w : Work) : Work :=
  let t := w.lane.run.tracker
  let t' := t.timeout (w.p .lossFactor) k
  let entered := decide (t.state ≠ .holdover ∧ t'.state = .holdover)
  let held := decide (t'.state = .holdover)
  ((w.count fun r =>
    { r with
      holdovers := if entered then bump r.holdovers else r.holdovers
      holdoverInstants := if held then bump r.holdoverInstants else r.holdoverInstants }).putTracker
    t').noteIf entered .trackTimeout

/-- The tracker takes instant k with n PERF edges attached (R26). -/
def trackInstant (k : Pos) (n : Nat) (w : Work) : Work := trackTimeout k (trackEdges k n w)

end Sys2Proof.Machine
end

