-- ==== Sys2Proof/Machine/Resampler.lean ====
section
/-! DEFINITION. The Position Resampler (02, R37 to R45). -/

namespace Sys2Proof.Machine

/-- The step Δ = floor(256·E / P) (R37). -/
def stepOf (e p : Int) : Int := floorDiv (256 * e) p

/-- An interpolated value at fraction f of the way from v0 to v1 (R40). -/
def interpolate (v0 v1 : Int) (f : Nat) : Int := v0 + floorDiv ((v1 - v0) * f) 65536

/-- The interpolated halves of a dual-rail output (R41). -/
def interpolateHalves (f : Nat) : Option Halves → Option Halves → Option Halves
  | some h0, some h1 => some ⟨interpolate h0.a h1.a f, interpolate h0.b h1.b f⟩
  | _, _ => none

/-- An output's original value: of the interpolated halves on a dual-rail lane (R41), and otherwise of the
instants' values (R40). -/
def outputValue (x0 x1 : Int) (f : Nat) : Option Halves → Int
  | some h => floorDiv (h.a + h.b) 2
  | none => interpolate x0 x1 f

/-- A mark at index m is reached by an output at RP: RP ≥ 65,536·m, taken modulo 2^48 (R44, R37). -/
def reached (rp : BitVec 48) (m : Pos) : Bool :=
  decide ((rp - (m.setWidth 48 <<< 16)).toNat < 2 ^ 47)

/-- The index of the instant at or before RP, floor(RP / 65,536) (R39). -/
def rpIndex (rp : BitVec 48) : Pos := rp.extractLsb' 16 32

/-- The fraction f = RP mod 65,536 (R40). -/
def rpFraction (rp : BitVec 48) : Nat := rp.toNat % 65536

/-- The output at RP between the previous instant and the completing one (R40 to R45). -/
def outputAt (l : Lane) (prev next : PrevInstant) : Output :=
  let r := l.run.resampler
  let f := rpFraction r.rp
  let halves := interpolateHalves f prev.halves next.halves
  { pos := r.nextPos
    x := outputValue prev.x next.x f halves
    halves
    sensor := prev.suspect || next.suspect
    lost := l.front.signal = .lost
    locked := l.run.tracker.state = .locked
    perfMark := r.perfMarks.any (reached r.rp)
    spliceMark := r.spliceMarks.any (reached r.rp)
    holdover := l.run.tracker.state = .holdover }

/-- The resampler after an output: the marks it reached are removed, and RP and the position advance
(R39, R42, R44, R45). -/
def Resampler.advance (r : Resampler) : Resampler :=
  { r with
    rp := r.rp + BitVec.ofInt 48 r.step
    nextPos := r.nextPos + 1
    perfMarks := r.perfMarks.filter fun m => !reached r.rp m
    spliceMarks := r.spliceMarks.filter fun m => !reached r.rp m }

/-- One output is produced and handed on (R39, R42). -/
def produce (prev next : PrevInstant) (w : Work) : Work :=
  entryEvent (w.setRun { w.lane.run with resampler := w.lane.run.resampler.advance })
    (outputAt w.lane prev next)

/-- The outputs with floor(RP / 65,536) = k − 1, where k − 1 is the previous instant's index, at most n of
them (R39). -/
def produceUpTo (prev next : PrevInstant) : Nat → Work → Work
  | 0, w => w
  | n + 1, w =>
    if rpIndex w.lane.run.resampler.rp = prev.index then
      produceUpTo prev next n (produce prev next w)
    else w

/-- The step follows a changed E (R38). -/
def Work.restep (w : Work) (oldE : Int) : Work :=
  let e := w.lane.run.tracker.e
  if e = oldE then w
  else
    w.setRun
      { w.lane.run with
        resampler := { w.lane.run.resampler with step := stepOf e (w.p .samplesPerPerf) } }

/-- The resampler takes instant `next`, to which a handed SPLICE edge may be attached (R39, R45): the
pending marks, the outputs, and the instant becomes the previous one. The first instant of a run, which
has no previous one, completes no output (assumption 8). -/
def resampleInstant (next : PrevInstant) (splice : Bool) (w : Work) : Work :=
  let marks := w.lane.run.resampler.spliceMarks
  let marks := if splice && !decide (next.index ∈ marks) then marks ++ [next.index] else marks
  let w := w.setRun
    { w.lane.run with resampler := { w.lane.run.resampler with spliceMarks := marks } }
  let w := match w.lane.run.resampler.prev with
    | some prev => produceUpTo prev next Config.outputsPerInstant w
    | none => w
  w.setRun { w.lane.run with resampler := { w.lane.run.resampler with prev := some next } }

end Sys2Proof.Machine
end

