-- ==== Sys2Proof/Machine/LaneControl.lean ====
section
/-! DEFINITION. Effects of the lane commands on the lane as a whole (01, R2 to R7), device reset (R9), the
snapshot (R169) and the notice frames (R173). -/

namespace Sys2Proof.Machine

/-! ### Start and stop -/

/-- The front end at START_LANE (R3, R16, R18). -/
def FrontEnd.start : FrontEnd := ⟨none, [], 0, .ok, 0, 0, 0⟩

/-- A DITHER_SEED as the generator takes it: 0 is replaced by 1 (R139). -/
def seedOf (seed : Int) : BitVec 24 := if seed = 0 then 1 else BitVec.ofInt 24 seed

/-- The run state that START_LANE creates under a lane's parameters (R3, R22, R25, R37, R47, R66, R82,
R98, R99, R129, R139). -/
def Run.start (ps : Params) : Run where
  generator := ⟨0, 0, 0, 0⟩
  tracker := ⟨.acquiring, 256 * ps.get .nom, none, 0, 0⟩
  resampler := ⟨stepOf (256 * ps.get .nom) (ps.get .samplesPerPerf), 0, none, 0, [], []⟩
  ring := ⟨[], []⟩
  hum := ⟨0, 0, false⟩
  detector := ⟨[], 0, 0, 0, Config.settleCount, none, 0, 0, 0⟩
  queue := ⟨[], false⟩
  hiss := ⟨0, 0, ps.get .floorValue, 32768, 0, none⟩
  former := ⟨0, 0, []⟩
  dither := seedOf (ps.get .ditherSeed)

/-- START_LANE's effect on a STOPPED lane (R3, R4). -/
def Lane.start (l : Lane) : Lane :=
  { l with
    state := .running
    runNumber := l.runNumber + 1
    front := FrontEnd.start
    run := Run.start l.params }

/-- The lane after the discards of the stop effects: STOPPED, with the pending A word, the held edges, the
ring and the Defect Queue gone and the run's state ended. The signal state is kept (R5, R62, R98). The
spec gives the dark run, the recovery run, the hold value and the next instant index no value from here
to START_LANE, and the model keeps them as they were (DESIGN CHOICE, assumption 5). -/
def Lane.discard (l : Lane) : Lane :=
  { l with
    state := .stopped
    front := { l.front with pendingA := none, heldEdges := [] }
    run := Run.ended }

/-- The stop effects on a RUNNING lane: a RUNNING segment ends with LANE_STOPPED, then the discards (R5,
R156). -/
def stopEffects (w : Work) : Work :=
  let w := match w.lane.runningSlot with
    | some i => endSegment w i .laneStopped
    | none => w
  w.setLane w.lane.discard

/-- RESET_LANE: the stop effects on a RUNNING lane, then both slots EMPTY and the latch cleared (R6). -/
def resetLaneEffects (w : Work) : Work :=
  let w := if w.lane.state = .running then stopEffects w else w
  w.setLane { w.lane with slotA := .empty, slotB := .empty, loadOrder := [], latch := 0 }

/-- DEFAULT_LANE's effect: parameters, templates, predictor and gain table at their defaults (R7). -/
def Lane.toDefaults (l : Lane) : Lane :=
  let ps := Params.defaults
  { l with
    params := ps
    sprocket := Template.zero (ps.get .samplesPerPerf).toNat
    line := Template.zero (ps.get .linePeriod).toNat
    predictor := defaultPredictor
    gainTable := gainCurve (ps.get .hissOpen) (ps.get .hissDepth) }

/-! ### Device reset -/

/-- Every piece of the part's state at its device-reset value (R9). The commands that wait are not the
part's and stay. -/
def deviceReset (s : State) : State := { State.reset with pending := s.pending }

/-! ### What the host is shown of a lane -/

/-- The tracker state shown: ACQUIRING for a lane that is not RUNNING (R25). -/
def Lane.shownTracker (l : Lane) : TrackerState :=
  if l.state = .running then l.run.tracker.state else .acquiring

/-- E shown: 256·NOM for a lane that is not RUNNING (R25). -/
def Lane.shownE (l : Lane) : Int :=
  if l.state = .running then l.run.tracker.e else 256 * l.params.get .nom

/-- The QUERY_LANE reply data, 15 bytes (R169; Formats). A lane that is not RUNNING shows a ring fill and a
queue length of 0 (R50, R97). -/
def Lane.snapshot (l : Lane) : List Byte :=
  let running := decide (l.state = .running)
  [l.state.code, l.shownTracker.code, l.front.signal.code] ++ beInt 4 l.shownE ++
    be 2 (if running then l.run.ring.fill else 0) ++
    be 1 (if running then l.run.queue.records.length else 0) ++
    [l.slotA.code, l.slotB.code] ++ be 1 l.sprocket.cycles ++ be 1 l.line.cycles ++
    be 1 l.runNumber.toNat

/-- A lane's notice frame (R173; Formats, Notice payload). -/
def laneNotice (id : LaneId) (l : Lane) : Frame :=
  ⟨0x42, 0, laneByte id,
    [l.latch, l.shownTracker.code, l.front.signal.code, l.slotA.code, l.slotB.code]⟩

/-- The device's notice frame (R173; Formats, Notice payload). -/
def deviceNotice : Frame := ⟨0x42, 0, 255, [1]⟩

end Sys2Proof.Machine
end

