-- ==== Sys2Proof/Machine/DeviceCommands.lean ====
section
/-! DEFINITION. The device commands and the answer to an unknown kind (09, R162, R163, R174; 01, R10). -/

namespace Sys2Proof.Machine

/-- The IDENTIFY reply data (R163). -/
def identity : List Byte :=
  be 2 0x0840 ++ be 1 1 ++ be 1 8 ++ be 1 Config.inboundDepth ++ be 2 Config.inboundPayload ++
    be 4 Config.outboundSize ++ be 2 Config.outboundReserve ++ be 2 Config.outboundPayload

/-- IDENTIFY (R163). -/
def execIdentify (c : Command) (s : State) : Host.Outcome State Fault Refusal :=
  .next (takeDevice 0x01 0 c (fun s => (s, ⟨.ok, identity⟩)) s)

/-- DEVICE_RESET: command taking stops, and the OK reply will be followed by the reset (R10). -/
def execDeviceReset (c : Command) (s : State) : Host.Outcome State Fault Refusal :=
  .next (takeDevice 0x02 0 c (fun s => (s.setLink { s.link with taking := false }, ⟨.ok, []⟩)) s)

/-- The GET_LINK_STATS reply data (R174). -/
def LinkStats.encode (k : LinkStats) : List Byte :=
  be 4 k.crcErrors ++ be 4 k.oversize ++ be 4 k.overflows ++ be 4 k.streamDrops

/-- GET_LINK_STATS (R174). -/
def execGetLinkStats (c : Command) (s : State) : Host.Outcome State Fault Refusal :=
  .next (takeDevice 0x03 0 c (fun s => (s, ⟨.ok, s.link.stats.encode⟩)) s)

/-- CLEAR_LINK_STATS (R174). -/
def execClearLinkStats (c : Command) (s : State) : Host.Outcome State Fault Refusal :=
  .next (takeDevice 0x04 0 c
    (fun s => (s.setLink { s.link with stats := ⟨0, 0, 0, 0⟩ }, ⟨.ok, []⟩)) s)

/-- The reply to a frame of an unknown kind: kind 0xFF and the status alone (R162). -/
def unknownReply (f : Frame) : Frame := ⟨0xFF, f.tag, f.lane, [Status.unknownKind.code]⟩

/-- UNKNOWN_KIND: a frame of a kind that is no command kind is taken and answered, and changes nothing else
(R162). A kind that is a command kind is not this row's (assumption 3). -/
def execUnknownKind (kind : Byte) (c : Command) (s : State) : Host.Outcome State Fault Refusal :=
  .next
    (if isUnknownKind kind && s.canTake (commandFrame kind c) then
      s.reply (unknownReply (commandFrame kind c))
    else s)

end Sys2Proof.Machine
end

