-- ==== Sys2Proof/Machine/LaneCommands.lean ====
section
/-! DEFINITION. The lane commands (01, R1 to R8), the snapshot (R169) and the notice masks (R172). -/

namespace Sys2Proof.Machine

/-- A command without payload. -/
def noPayload (n : Nat) : Bool := n == 0

/-- ENABLE_LANE (R2). -/
def execEnableLane (c : Command) (s : State) : Host.Outcome State Fault Refusal :=
  .next (takeLane 0x10 noPayload c
    (fun w =>
      if w.lane.state = .disabled then (w.setLane { w.lane with state := .stopped }, ⟨.ok, []⟩)
      else (w, refuse .wrongState)) s)

/-- DISABLE_LANE (R2). -/
def execDisableLane (c : Command) (s : State) : Host.Outcome State Fault Refusal :=
  .next (takeLane 0x11 noPayload c
    (fun w =>
      if w.lane.state = .stopped then (w.setLane { w.lane with state := .disabled }, ⟨.ok, []⟩)
      else (w, refuse .wrongState)) s)

/-- START_LANE: the new run number is the reply data (R3, R4). -/
def execStartLane (c : Command) (s : State) : Host.Outcome State Fault Refusal :=
  .next (takeLane 0x12 noPayload c
    (fun w =>
      if w.lane.state = .stopped then
        (w.setLane w.lane.start, ⟨.ok, [w.lane.start.runNumber]⟩)
      else (w, refuse .wrongState)) s)

/-- STOP_LANE (R5). -/
def execStopLane (c : Command) (s : State) : Host.Outcome State Fault Refusal :=
  .next (takeLane 0x13 noPayload c
    (fun w =>
      if w.lane.state = .running then (stopEffects w, ⟨.ok, []⟩) else (w, refuse .wrongState)) s)

/-- RESET_LANE, taken in every lane state (R6). -/
def execResetLane (c : Command) (s : State) : Host.Outcome State Fault Refusal :=
  .next (takeLane 0x14 noPayload c (fun w => (resetLaneEffects w, ⟨.ok, []⟩)) s)

/-- DEFAULT_LANE (R7). -/
def execDefaultLane (c : Command) (s : State) : Host.Outcome State Fault Refusal :=
  .next (takeLane 0x15 noPayload c
    (fun w =>
      if w.lane.state = .running then (w, refuse .wrongState)
      else (w.setLane w.lane.toDefaults, ⟨.ok, []⟩)) s)

/-- QUERY_LANE, taken in every lane state; it changes nothing (R169). -/
def execQueryLane (c : Command) (s : State) : Host.Outcome State Fault Refusal :=
  .next (takeLane 0x16 noPayload c (fun w => (w, ⟨.ok, w.lane.snapshot⟩)) s)

/-- SET_NOTICE_MASK: lane 255 names the device mask, whose bit 0 alone is used (R172). -/
def execSetNoticeMask (c : Command) (s : State) : Host.Outcome State Fault Refusal :=
  .next
    (if c.lane = 255 then
      takeDevice 0x17 1 c
        (fun s =>
          (s.setLink { s.link with deviceMask := (c.payload.getD 0 0).getLsbD 0 }, ⟨.ok, []⟩)) s
    else
      takeLane 0x17 (fun n => n == 1) c
        (fun w => (w.setLane { w.lane with mask := c.payload.getD 0 0 }, ⟨.ok, []⟩)) s)

end Sys2Proof.Machine
end

