-- ==== Sys2Proof/Machine/LineCode.lean ====
section
/-! DEFINITION. The line code of the Control Link (R158): characters as 8b/10b codes with a running
disparity, the codes of a sent frame, and the characters that the receive framer collects (R159). The
code's tables are the standard ones of 8b/10b, which the spec names and does not print (PRESUMED,
assumption 34). -/

namespace Sys2Proof.Machine

/-! ### Disparity -/

/-- The other running disparity. -/
def Disparity.opposite : Disparity → Disparity
  | .minus => .plus
  | .plus => .minus

/-- The number of ones in a block of bits. -/
def weight {n : Nat} (c : BitVec n) : Nat := (List.range n).countP (c.getLsbD ·)

/-- The running disparity after a block: the side on which the block has more bits, unchanged when it is
balanced. -/
def Disparity.after {n : Nat} (d : Disparity) (c : BitVec n) : Disparity :=
  if n < 2 * weight c then .plus else if 2 * weight c < n then .minus else d

/-- A block of the negative column, or its complement for the positive column. -/
def Disparity.column {n : Nat} (d : Disparity) (c : BitVec n) : BitVec n :=
  match d with
  | .minus => c
  | .plus => ~~~c

/-! ### Codes -/

/-- The six-bit blocks of D.0 to D.31 at negative disparity, first transmitted bit most significant. -/
def sixBlocks : List (BitVec 6) :=
  [0b100111, 0b011101, 0b101101, 0b110001, 0b110101, 0b101001, 0b011001, 0b111000,
   0b111001, 0b100101, 0b010101, 0b110100, 0b001101, 0b101100, 0b011100, 0b010111,
   0b011011, 0b100011, 0b010011, 0b110010, 0b001011, 0b101010, 0b011010, 0b111010,
   0b110011, 0b100110, 0b010110, 0b110110, 0b001110, 0b101110, 0b011110, 0b101011]

/-- The four-bit blocks of .0 to .7 at negative disparity. -/
def fourBlocks : List (BitVec 4) :=
  [0b1011, 0b1001, 0b0101, 0b1100, 0b1101, 0b1010, 0b0110, 0b1110]

/-- The six-bit block of x: the two columns differ where the block is unbalanced, and at 7. -/
def sixBlock (d : Disparity) (x : BitVec 5) : BitVec 6 :=
  let c := sixBlocks.getD x.toNat 0
  if weight c = 3 ∧ x ≠ 7 then c else d.column c

/-- The four-bit block of y: the two columns differ where the block is unbalanced, and at 3. -/
def fourBlock (d : Disparity) (y : BitVec 3) : BitVec 4 :=
  let c := fourBlocks.getD y.toNat 0
  if weight c = 2 ∧ y ≠ 3 then c else d.column c

/-- Where y = 7 takes its alternate block, so that no five equal bits meet across the two blocks. -/
def alternate (d : Disparity) (x : BitVec 5) : Bool :=
  match d with
  | .minus => x == 17 || x == 18 || x == 20
  | .plus => x == 11 || x == 13 || x == 14

/-- The code of the data byte Dx.y: the six-bit block of its low five bits, then the four-bit block of its
high three at the disparity the first leaves. -/
def dataCode (d : Disparity) (b : Byte) : Code :=
  let x := b.extractLsb' 0 5
  let y := b.extractLsb' 5 3
  let six := sixBlock d x
  let d' := d.after six
  six ++ if y = 7 ∧ alternate d' x = true then d'.column 0b0111 else fourBlock d' y

/-- The code of a character: idle K28.5, start K27.7, end K29.7 (R158). -/
def LinkChar.code (d : Disparity) : LinkChar → Code
  | .data b => dataCode d b
  | .idle => d.column 0b0011111010
  | .start => d.column 0b1101101000
  | .stop => d.column 0b1011101000

/-! ### The transmitter -/

/-- The codes of characters sent one after the other, from a running disparity. -/
def lineCodes : Disparity → List LinkChar → List Code
  | _, [] => []
  | d, ch :: cs => ch.code d :: lineCodes (d.after (ch.code d)) cs

/-- The running disparity after characters sent one after the other. -/
def lineDisparity : Disparity → List LinkChar → Disparity
  | d, [] => d
  | d, ch :: cs => lineDisparity (d.after (ch.code d)) cs

/-- A frame as sent: a start character, its bytes, and an end character (R158). -/
def Frame.line (f : Frame) : List LinkChar := .start :: (f.wire.map .data ++ [.stop])

/-- The transmitter sends characters: their codes are the line's last, and its disparity follows. -/
def Link.transmit (k : Link) (cs : List LinkChar) : Link :=
  { k with txLine := lineCodes k.txDisparity cs, txDisparity := lineDisparity k.txDisparity cs }

/-! ### The receiver -/

/-- The byte whose two blocks a code may hold, in either column. -/
def byteOf (c : Code) : Option Byte :=
  let six := c.extractLsb' 4 6
  let four := c.extractLsb' 0 4
  let x? := (List.range 32).find? fun i =>
    sixBlock .minus (BitVec.ofNat 5 i) == six || sixBlock .plus (BitVec.ofNat 5 i) == six
  let y? := if four = 0b0111 ∨ four = 0b1000 then some 7 else (List.range 8).find? fun i =>
    fourBlock .minus (BitVec.ofNat 3 i) == four || fourBlock .plus (BitVec.ofNat 3 i) == four
  match x?, y? with
  | some x, some y => some (BitVec.ofNat 8 (32 * y + x))
  | _, _ => none

/-- The character whose code, in one column or the other, a code may be. -/
def candidate (c : Code) : Option LinkChar :=
  if c = LinkChar.idle.code .minus ∨ c = LinkChar.idle.code .plus then some .idle
  else if c = LinkChar.start.code .minus ∨ c = LinkChar.start.code .plus then some .start
  else if c = LinkChar.stop.code .minus ∨ c = LinkChar.stop.code .plus then some .stop
  else (byteOf c).map .data

/-- The character that a received code is, and none when it is not a valid code (R159). A code of the wrong
column is one only where the receiver does not check the disparity (a free value, assumption 34). -/
def readCode (d : Disparity) (c : Code) : Option LinkChar :=
  (candidate c).filter fun ch =>
    ch.code d == c || (ch.code d.opposite == c && !Config.checksDisparity)

/-- What the framer collects after a start character, up to the next end character; `none` among them is a
character that is not a valid code. Without an end character no frame is judged (R159). The running disparity
follows every code that arrives by the weight of its ten bits, after one that is not valid too (DESIGN
CHOICE, assumption 34). -/
def collect : Disparity → List Code → Option (List (Option LinkChar))
  | _, [] => none
  | d, c :: cs =>
    match readCode d c with
    | some .stop => some []
    | ch => (collect (d.after c) cs).map (ch :: ·)

/-- The running disparity that a start character's code shows. -/
def startDisparity (c : Code) : Option Disparity :=
  if c = LinkChar.start.code .minus then some .minus
  else if c = LinkChar.start.code .plus then some .plus
  else none

/-- The characters between the first start character that arrives and the next end character. What arrives
outside a frame is ignored, an end character too (R159). -/
def framed : List Code → Option (List (Option LinkChar))
  | [] => none
  | c :: cs =>
    match startDisparity c with
    | some d => collect d cs
    | none => framed cs

end Sys2Proof.Machine
end

