-- ==== Sys2Proof/Machine/LinkEvents.lean ====
section
/-! DEFINITION. The Link Controller's events (09, R158 to R161, R170 to R173): frames received, replies and
notices entering the outbound queue, and frames sent. -/

namespace Sys2Proof.Machine

/-! ### Receiving -/

/-- The data bytes among received characters; idle characters do not count (R159). A character that is no
valid code, or a second start character, is no byte, and is not counted among the 1,287 bytes of R159's
first step (DEDUCED, assumption 33). -/
def dataBytes (cs : List (Option LinkChar)) : List Byte :=
  cs.filterMap fun c => match c with | some (.data b) => some b | _ => none

/-- A second start character or an invalid code arrived within the frame (R159). -/
def damaged (cs : List (Option LinkChar)) : Bool :=
  cs.any fun c => match c with | some .start | none => true | _ => false

/-- A good frame is offered to the inbound queue: it enters, or at a full queue it is discarded, counted
and raised at the device latch (R160). -/
def Link.offerInbound (k : Link) (f : Frame) : Link :=
  if k.inbound.length < Config.inboundDepth then { k with inbound := k.inbound ++ [f] }
  else
    { k with
      stats := { k.stats with overflows := satAdd k.stats.overflows 1 }
      deviceLatch := k.deviceLatch || k.deviceMask }

/-- The receive framer judges the characters between a start and an end character (R159). -/
def Link.judgeFrame (k : Link) (cs : List (Option LinkChar)) : Link :=
  let bs := dataBytes cs
  if Config.inboundPayload + Config.frameOverhead < bs.length then
    { k with stats := { k.stats with oversize := satAdd k.stats.oversize 1 } }
  else match Frame.ofWire bs with
    | some f =>
      if damaged cs then { k with stats := { k.stats with crcErrors := satAdd k.stats.crcErrors 1 } }
      else k.offerInbound f
    | none => { k with stats := { k.stats with crcErrors := satAdd k.stats.crcErrors 1 } }

/-- FRAME_RECEIVED: the end character among the codes that have arrived ends a frame, which the framer
judges; without a start and an end character nothing is judged (R159). While RESETn is low the framer
discards everything (R9). -/
def execFrameReceived (codes : List Code) (s : State) : Host.Outcome State Fault Refusal :=
  .next
    (match framed codes with
     | some cs => if s.resetHeld then s else s.setLink (s.link.judgeFrame cs)
     | none => s)

/-! ### Entering the outbound queue -/

/-- REPLY_ENTRY: the waiting reply enters when its bytes fit in the free room (R171). -/
def execReplyEntry (s : State) : Host.Outcome State Fault Refusal :=
  .next
    (match s.link.waiting with
     | some f =>
       if !s.resetHeld && fits s.link.outbound f then
         s.setLink { s.link with outbound := s.link.outbound ++ [f], waiting := none }
       else s
     | none => s)

/-- The lane's latch forms its notice, when it is not empty and the frame fits (R173). -/
def formLaneNotice (id : LaneId) (w : Work) : Work :=
  if w.lane.latch ≠ 0 && fits w.outbound (laneNotice id w.lane) then
    (w.enqueue (laneNotice id w.lane)).setLane { w.lane with latch := 0 }
  else w

/-- The device latch forms its notice, when it is not empty and the frame fits (R173). -/
def formDeviceNotice (s : State) : State :=
  if !s.resetHeld && s.link.deviceLatch && fits s.link.outbound deviceNotice then
    s.setLink { s.link with outbound := s.link.outbound ++ [deviceNotice], deviceLatch := false }
  else s

/-- NOTICE_FORMED at a lane's latch or the device's (R173). -/
def execNoticeFormed (latch : LatchId) (s : State) : Host.Outcome State Fault Refusal :=
  .next
    (match latch with
     | .lane l => laneEvent l (formLaneNotice l) s
     | .device => formDeviceNotice s)

/-! ### Sending -/

/-- The frame is the OK reply of an accepted DEVICE_RESET: kind 0x82 with the status OK alone (R10, R162). -/
def isResetReply (f : Frame) : Bool := f.kind == 0x82 && f.payload == [Status.ok.code]

/-- The front frame has been sent whole, from start character to end character: it leaves the queue, and its
codes are the line's last (R158, R170). -/
def State.sent (s : State) (f : Frame) (rest : List Frame) : State :=
  s.setLink ({ s.link with outbound := rest }.transmit f.line)

/-- The part resets after the reply of DEVICE_RESET; the line's last codes are that reply's (R10). -/
def resetAfter (s : State) (f : Frame) : State :=
  { deviceReset s with
    link := { Link.reset with txLine := lineCodes s.link.txDisparity f.line } }

/-- While no command waits: with no frame to send the transmitter sends an idle character, which it does
not while RESETn is low (R158, R9; the model's tick, assumption 35). -/
def idleTick (s : State) : State :=
  if s.resetHeld || !s.link.outbound.isEmpty then s else s.setLink (s.link.transmit [.idle])

/-- FRAME_SENT: the front frame's last character has been sent (R170). When the frame is the reply of a
DEVICE_RESET that was taken, the part resets in the same event (R10; assumption 31). -/
def execFrameSent (s : State) : Host.Outcome State Fault Refusal :=
  .next
    (match s.link.outbound with
     | f :: rest =>
       if s.resetHeld then s
       else if !s.link.taking && isResetReply f then resetAfter s f
       else s.sent f rest
     | [] => s)

/-- RESET_AFTER_REPLY: the last character sent is that of the DEVICE_RESET reply, and the part resets (R10).
With another frame in front the row names nothing that happens (assumption 3). -/
def execResetAfterReply (s : State) : Host.Outcome State Fault Refusal :=
  .next
    (match s.link.outbound with
     | f :: _ =>
       if !s.resetHeld && !s.link.taking && isResetReply f then resetAfter s f else s
     | [] => s)

end Sys2Proof.Machine
end

