-- ==== Sys2Proof/Machine/Intake.lean ====
section
/-! DEFINITION. The Lane Front End (01, R11 to R21) and the Test Generator (R22 to R24): sensor words,
edges, and the completion of an instant. -/

namespace Sys2Proof.Machine

/-! ### Signal watch -/

/-- The front end after an instant's quality is taken into the signal state (R16). -/
def FrontEnd.watch (f : FrontEnd) (q : Quality) : FrontEnd :=
  match f.signal, q with
  | .ok, .dark =>
    if Config.signalThreshold ≤ f.darkRun + 1 then
      { f with signal := .lost, darkRun := 0, recoveryRun := 0 }
    else { f with darkRun := f.darkRun + 1 }
  | .ok, _ => { f with darkRun := 0 }
  | .lost, .dark => { f with recoveryRun := 0 }
  | .lost, _ =>
    if Config.signalThreshold ≤ f.recoveryRun + 1 then
      { f with signal := .ok, darkRun := 0, recoveryRun := 0 }
    else { f with recoveryRun := f.recoveryRun + 1 }

/-- The signal state is updated, with the consequences of a change (R16, R17). -/
def watchSignal (q : Quality) (w : Work) : Work :=
  let old := w.lane.front.signal
  let w := w.setFront (w.lane.front.watch q)
  match old, w.lane.front.signal with
  | .ok, .lost => onSignalLost w
  | .lost, .ok => onSignalRecovered w
  | _, _ => w

/-- The suspect mark of an instant (R19). -/
def suspectMark (q : Quality) (after : SignalState) : Bool := q ≠ .ok && after = .ok

/-! ### An instant completes -/

/-- A completed instant is taken whole: its index, the signal state, the suspect mark, the tracker with its
PERF edges, and the resampler with its SPLICE edges, which a loss of signal drops (R15, R21, R26, R38,
R39). -/
def completeInstant (x : Int) (halves : Option Halves) (q : Quality) (edges : List EdgeKind)
    (w : Work) : Work :=
  let k := w.lane.front.nextIndex
  let w := watchSignal q (w.setFront { w.lane.front with nextIndex := k + 1 })
  let signal := w.lane.front.signal
  let oldE := w.lane.run.tracker.e
  let w := (trackInstant k (edges.count .perf) w).restep oldE
  resampleInstant ⟨x, halves, suspectMark q signal, k⟩
    (decide (.splice ∈ edges) && signal = .ok) w

/-- A completed sensor instant takes the held edges with it (R20). -/
def completeSensor (x : Int) (halves : Option Halves) (q : Quality) (w : Work) : Work :=
  completeInstant x halves q w.lane.front.heldEdges
    (w.setFront { w.lane.front with heldEdges := [] })

/-! ### Sensor words and edges -/

/-- The worse of two qualities (R13). -/
def Quality.worse : Quality → Quality → Quality
  | .dark, _ | _, .dark => .dark
  | .clipped, _ | _, .clipped => .clipped
  | .ok, .ok => .ok

/-- A pairing error is counted in the running segment (R14). -/
def pairingError (w : Work) : Work :=
  w.count fun r => { r with pairingErrors := bump r.pairingErrors }

/-- A word taken on a dual-rail lane (R13, R14). -/
def takeDual (f : SensorFields) (w : Work) : Work :=
  match f.half, w.lane.front.pendingA with
  | .a, none => w.setFront { w.lane.front with pendingA := some ⟨f.value, f.quality⟩ }
  | .a, some _ =>
    pairingError (w.setFront { w.lane.front with pendingA := some ⟨f.value, f.quality⟩ })
  | .b, some a =>
    completeSensor (floorDiv (a.value + f.value) 2) (some ⟨a.value, f.value⟩)
      (a.quality.worse f.quality) (w.setFront { w.lane.front with pendingA := none })
  | .b, none => pairingError w

/-- The lane takes its sensor and transport inputs: RUNNING with SOURCE at SENSOR (R11, R20). -/
def Work.takesSensor (w : Work) : Bool := w.lane.state = .running && w.p .source == 0

/-- A word for a lane: discarded, or taken on a single-rail or a dual-rail lane (R11, R12). -/
def takeWord (f : SensorFields) (w : Work) : Work :=
  if w.takesSensor then
    if w.p .railMode = 1 then takeDual f w else completeSensor f.value none f.quality w
  else w

/-- An edge on a Transport Line: discarded, or held for the next instant (R20). -/
def takeEdge (k : EdgeKind) (w : Work) : Work :=
  if w.takesSensor then
    w.setFront { w.lane.front with heldEdges := w.lane.front.heldEdges ++ [k] }
  else w

/-! ### The Test Generator -/

/-- The triangle value at phase φ for period T and amplitude A (R23). -/
def triangle (period amplitude phi : Int) : Int :=
  let h := floorDiv period 2
  if phi < h then -amplitude + floorDiv (2 * amplitude * phi) h
  else amplitude - floorDiv (2 * amplitude * (phi - h)) (period - h)

/-- The instant is an impulse instant: the S-th, 2S-th and later ones of the run (R23). -/
def Generator.impulse (g : Generator) (spacing : Nat) : Bool :=
  decide (0 < spacing) && decide (spacing ≤ g.impulseCount + 1)

/-- The edges of a generated instant: PERF at every NOM-th instant from the first, and SPLICE with every
S-th perforation after the first (R24). -/
def Generator.edges (g : Generator) (spliceSpacing : Nat) : List EdgeKind :=
  if g.perfGap = 0 then
    if 0 < spliceSpacing ∧ 1 ≤ g.perfCount ∧ g.perfCount % spliceSpacing = 0 then [.perf, .splice]
    else [.perf]
  else []

/-- The generator's counts after an instant (R23, R24). -/
def Generator.advance (g : Generator) (period spacing nom : Nat) : Generator where
  phase := if g.phase + 1 < period then g.phase + 1 else 0
  impulseCount := if g.impulse spacing then 0 else g.impulseCount + 1
  perfGap := if g.perfGap + 1 < nom then g.perfGap + 1 else 0
  perfCount := if g.perfGap = 0 then g.perfCount + 1 else g.perfCount

/-- The value and halves of a generated instant (R23). -/
def generatedValues (dual : Bool) (v height : Int) (impulse : Bool) : Int × Option Halves :=
  let a := if impulse then clamp24 (v + height) else v
  if dual then (floorDiv (a + v) 2, some ⟨a, v⟩) else (a, none)

/-- The generator completes one instant of quality OK on a RUNNING lane whose SOURCE is GENERATOR
(R22 to R24); nothing happens on any other lane. -/
def generateInstant (w : Work) : Work :=
  if w.lane.state = .running && w.p .source == 1 then
    let g := w.lane.run.generator
    let spacing := (w.p .genImpulseSpacing).toNat
    let v := triangle (w.p .genPeriod) (w.p .genAmplitude) (g.phase : Nat)
    let a := generatedValues (w.p .railMode == 1) v (w.p .genImpulseHeight) (g.impulse spacing)
    let edges := g.edges (w.p .genSpliceSpacing).toNat
    let g' := g.advance (w.p .genPeriod).toNat spacing (w.p .nom).toNat
    completeInstant a.1 a.2 .ok edges (w.setRun { w.lane.run with generator := g' })
  else w

end Sys2Proof.Machine
end

