-- ==== Sys2Proof/Machine/Repair.lean ====
section
/-! DEFINITION. The Repair Engine (06): eligibility and loading, the repair arithmetic, completion and
write-back. -/

namespace Sys2Proof.Machine

/-! ### Arithmetic -/

/-- A prediction from the eight nearest values, nearest first (R120, R121). -/
def predict (coeffs context : List Int) : Int :=
  clamp24 (floorDiv ((List.zipWith (· * ·) coeffs context).sum + 2048) 4096)

/-- n predictions away from a context, each used for the next (R120, R121). -/
def predictRun (coeffs : List Int) : Nat → List Int → List Int
  | 0, _ => []
  | n + 1, context =>
    let v := predict coeffs context
    v :: predictRun coeffs n (v :: context.take (Config.contextLength - 1))

/-- f_1 to f_g: the left context is held from start − 8 to start − 1 (R120). -/
def forward (coeffs left : List Int) (g : Nat) : List Int := predictRun coeffs g left.reverse

/-- b_1 to b_g, predicted from b_g down (R121). -/
def backward (coeffs right : List Int) (g : Nat) : List Int := (predictRun coeffs g right).reverse

/-- R_g = floor(65,536 / (g + 1) + 1/2) (R122). -/
def reciprocal (g : Nat) : Int := floorDiv (2 * 65536 + (g + 1)) (2 * (g + 1))

/-- The blend y_j (R122). -/
def blend (g j : Nat) (f b : Int) : Int :=
  clamp24 (floorDiv ((((g : Int) + 1 - j) * f + j * b) * reciprocal g + 32768) 65536)

/-- The blends y_j, y_(j+1) and so on of two runs of predictions (R122). -/
def blendFrom (g : Nat) : Nat → List Int → List Int → List Int
  | j, f :: fs, b :: bs => blend g j f b :: blendFrom g (j + 1) fs bs
  | _, _, _ => []

/-- The result of a HALF job for one entry: x, w and the clean half's value (R124). -/
def halfResult : Int × Int × Int → Int
  | (x, w, h) => clamp24 (w + h - x)

/-- The results of a job, from the job alone (R115, R128). -/
def Job.results (j : Job) : List Int :=
  match j.work with
  | .interpolate left right coeffs =>
    blendFrom j.gap 1 (forward coeffs left j.gap) (backward coeffs right j.gap)
  | .half _ span => span.map halfResult

/-! ### Loading -/

/-- A lane is eligible: its Defect Queue holds a QUEUED record (R108). -/
def Lane.eligible (l : Lane) : Bool := l.run.queue.oldestQueued.isSome

/-- The lanes in the order a load examines them, from the one after the pointer (R109). -/
def searchOrder (pointer : LaneId) : List LaneId :=
  [1, 2, 3, 4, 5, 6, 7, 8].map fun i => ⟨(pointer.val + i) % 8, Nat.mod_lt _ (by decide)⟩

/-- The lane a load serves (R109). -/
def State.laneToServe (s : State) : Option LaneId :=
  (searchOrder s.engine.pointer).find? fun l => (s.lanes[l]).eligible

/-- The bank a load fills: the EMPTY one, Bank 0 when both are (R109). -/
def Engine.bankToFill (e : Engine) : Option BankId :=
  if e.banks[0] = .empty then some 0 else if e.banks[1] = .empty then some 1 else none

/-- The other bank. -/
def otherBank (b : BankId) : BankId := if b = 0 then 1 else 0

def Engine.setBank (e : Engine) (b : BankId) (x : Bank) : Engine :=
  { e with banks := e.banks.set b.val x b.isLt }

/-- The working value at a position: that of the entry held there, and 0 before the run (R57, R111). -/
def Ring.workingAt (r : Ring) (p : Pos) : Int :=
  ((r.tail ++ r.window).find? fun e => e.pos == p).elim 0 (·.w)

/-- n working values from a position upward. -/
def Ring.context (r : Ring) (first : Pos) (n : Nat) : List Int :=
  (List.range n).map fun i => r.workingAt (posAdd first i)

/-- The span payload of an entry for a clean half (R111). -/
def halfItem (h : Half) (e : Entry) : Int × Int × Int :=
  (e.x, e.w, (e.halves.map fun v => match h with | .a => v.a | .b => v.b).getD 0)

/-- The repair kind of a record, HALF with its clean half (R112). -/
def chooseKind (l : Lane) (r : DefectRecord) : Option Half :=
  if l.params.get .railMode = 1 ∧ l.params.get .halfRepair = 1 ∧ r.causes.asymmetry = true ∧
      r.causes.sensor = false ∧ r.causes.splice = false then
    some (if r.sumA ≤ r.sumB then .a else .b)
  else none

/-- The job of a record, copied from the lane as it stands, with its kind and clean half (R107, R111,
R112). -/
def jobOf (id : LaneId) (l : Lane) (r : DefectRecord) : Job where
  lane := id
  runNumber := l.runNumber
  recordId := r.id
  gap := spanLength r.start r.stop
  work :=
    match chooseKind l r with
    | some h =>
      .half h ((l.run.ring.window.filter fun e => inSpan r.start r.stop e.pos).map (halfItem h))
    | none =>
      .interpolate (l.run.ring.context (posAdd r.start (-8)) Config.contextLength)
        (l.run.ring.context (posAdd r.stop 1) Config.contextLength) l.predictor

/-- A bank is RUNNING. -/
def Bank.isRunning : Bank → Bool
  | .running _ => true
  | _ => false

/-- The record after its load into bank b: kind, clean half, holding bank, and LOADED, or IN_REPAIR when
the bank runs at once (R112, R113). -/
def loadedRecord (l : Lane) (r : DefectRecord) (b : BankId) (runs : Bool) : DefectRecord :=
  { r with
    kind := some (if (chooseKind l r).isSome then .half else .interpolate)
    cleanHalf := chooseKind l r
    holding := some b
    state := if runs then .inRepair else .loaded }

/-- A load, as one event: lane, bank, job, record and pointer (R109, R111, R113). Nothing happens without
an EMPTY bank and an eligible lane. -/
def loadJob (s : State) : State :=
  match s.engine.bankToFill, s.laneToServe with
  | some b, some id =>
    match (s.lanes[id]).run.queue.oldestQueued with
    | some r =>
      let l := s.lanes[id]
      let runs := !(s.engine.banks[otherBank b]).isRunning
      let j := jobOf id l r
      let q := l.run.queue.update (loadedRecord l r b runs)
      (s.setLane id { l with run := { l.run with queue := q } }).setEngine
        { s.engine.setBank b (if runs then .running j else .loaded j) with pointer := id }
    | none => s
  | _, _ => s

/-! ### Completion -/

/-- The bank that is RUNNING; at most one is (R114). -/
def Engine.runningBank (e : Engine) : Option (BankId × Job) :=
  match e.banks[0], e.banks[1] with
  | .running j, _ => some (0, j)
  | _, .running j => some (1, j)
  | _, _ => none

/-- The record of a job in a bank, while the lane still has it (R117): the run number, the id and the
holding bank agree. -/
def Lane.recordOfJob (l : Lane) (j : Job) (b : BankId) : Option DefectRecord :=
  if l.runNumber = j.runNumber then
    (l.run.queue.find j.recordId).filter fun r => r.holding == some b
  else none

/-- The record of a job that starts to run becomes IN_REPAIR, if it is still LOADED (R115). -/
def startRepair (s : State) (j : Job) (b : BankId) : State :=
  let l := s.lanes[j.lane]
  match l.recordOfJob j b with
  | some r =>
    if r.state = .loaded then
      s.setLane j.lane
        { l with run := { l.run with queue := l.run.queue.update { r with state := .inRepair } } }
    else s
  | none => s

/-- Completion of the RUNNING bank: FINISHED with its results, and a LOADED other bank becomes RUNNING
(R115). Nothing happens while no bank is RUNNING. -/
def completeJob (s : State) : State :=
  match s.engine.runningBank with
  | some (b, j) =>
    let e := s.engine.setBank b (.finished j j.results)
    let e := { e with finishOrder := s.engine.finishOrder ++ [b] }
    match s.engine.banks[otherBank b] with
    | .loaded j' => startRepair (s.setEngine (e.setBank (otherBank b) (.running j'))) j' (otherBank b)
    | _ => s.setEngine e
  | none => s

/-! ### Write-back -/

/-- The record that a job matches at write-back: the record of the job, IN_REPAIR (R117). -/
def Lane.matching (l : Lane) (j : Job) (b : BankId) : Option DefectRecord :=
  (l.recordOfJob j b).filter fun r => r.state == .inRepair

/-- An entry after the results are written: those of the record's span take theirs and are flagged
REPAIRED (R118, step 1). -/
def Entry.repair (r : DefectRecord) (results : List Int) (e : Entry) : Entry :=
  if inSpan r.start r.stop e.pos then
    { e with w := results.getD (e.pos - r.start).toNat 0, repaired := true }
  else e

/-- A matching write-back in the lane: the results, the record REPAIRED without its holding bank, and the
departure test (R118). -/
def writeResults (r : DefectRecord) (results : List Int) (w : Work) : Work :=
  let run := w.lane.run
  let ring := { run.ring with window := run.ring.window.map (Entry.repair r results) }
  let queue := run.queue.update { r with state := .repaired, holding := none }
  departureTest (w.setRun { run with ring := ring, queue := queue })

/-- The FINISHED bank that completed first, with its job and results (R117). -/
def Engine.bankToWrite (e : Engine) : Option (BankId × Job × List Int) :=
  match e.finishOrder with
  | [] => none
  | b :: _ =>
    match e.banks[b] with
    | .finished j rs => some (b, j, rs)
    | _ => none

/-- The engine after a write-back of bank b: the bank EMPTY (R117). -/
def Engine.emptied (e : Engine) (b : BankId) : Engine :=
  { e.setBank b .empty with finishOrder := e.finishOrder.tail }

/-- The write-back on the lane its job names: results written when the job matches, discarded otherwise
(R117 to R119). -/
def writeBackLane (b : BankId) (j : Job) (results : List Int) (w : Work) : Work :=
  match w.lane.matching j b with
  | some r => writeResults r results w
  | none => w

end Sys2Proof.Machine
end

