-- ==== Sys2Proof/Machine/PortEvents.lean ====
section
/-! DEFINITION. What arrives at the pins and ports of the part, the generated instants, and the repair
engine's events; and the rows that name an event inside one of these steps (95; assumption 4). -/

namespace Sys2Proof.Machine

/-! ### RESETn -/

/-- RESETN_ASSERTED: the part is held in reset. What it held is gone: the frame being sent is cut short and
nothing is sent or taken (R9, R106; assumption 6). -/
def execResetnAsserted (s : State) : Host.Outcome State Fault Refusal :=
  .next { deviceReset s with resetHeld := true }

/-- RESETN_RELEASED: every piece of state holds its device-reset value (R9). While RESETn is high already
there is no release (assumption 3). -/
def execResetnReleased (s : State) : Host.Outcome State Fault Refusal :=
  .next (if s.resetHeld then deviceReset s else s)

/-! ### Words, edges and generated instants -/

/-- SENSOR_WORD (R11). -/
def execSensorWord (w : BitVec 32) (s : State) : Host.Outcome State Fault Refusal :=
  .next (laneEvent (sensorFields w).lane (takeWord (sensorFields w)) s)

/-- PERF_EDGE (R20). -/
def execPerfEdge (l : LaneId) (s : State) : Host.Outcome State Fault Refusal :=
  .next (laneEvent l (takeEdge .perf) s)

/-- SPLICE_EDGE (R20). -/
def execSpliceEdge (l : LaneId) (s : State) : Host.Outcome State Fault Refusal :=
  .next (laneEvent l (takeEdge .splice) s)

/-- GENERATOR_INSTANT (R22). -/
def execGeneratorInstant (l : LaneId) (s : State) : Host.Outcome State Fault Refusal :=
  .next (laneEvent l generateInstant s)

/-! ### The Repair Engine -/

/-- JOB_LOAD (R109, R111). -/
def execJobLoad (s : State) : Host.Outcome State Fault Refusal :=
  .next (if s.resetHeld then s else loadJob s)

/-- JOB_COMPLETION (R115). -/
def execJobCompletion (s : State) : Host.Outcome State Fault Refusal :=
  .next (if s.resetHeld then s else completeJob s)

/-- The lane a write-back reaches, with what it makes of it (R117 to R119). -/
def writeBackWork (s : State) : Option (BankId × Work) :=
  match s.engine.bankToWrite with
  | some (b, j, rs) => some (b, writeBackLane b j rs (s.work j.lane))
  | none => none

/-- A write-back, as one event: the lane, and the bank EMPTY (R117). Nothing happens while no bank is
FINISHED. -/
def writeBackStep (s : State) : State :=
  match writeBackWork s with
  | some (b, w) => (s.putWork w).setEngine (s.engine.emptied b)
  | none => s

/-- WRITE_BACK (R117). -/
def execWriteBack (s : State) : Host.Outcome State Fault Refusal :=
  .next (if s.resetHeld then s else writeBackStep s)

/-! ### Events inside a step -/

/-- The step a cause is: a sensor word, a generated instant, or a write-back. -/
def causeStep (s : State) : Cause → State
  | .word w => laneEvent (sensorFields w).lane (takeWord (sensorFields w)) s
  | .generator l => laneEvent l generateInstant s
  | .writeBack => if s.resetHeld then s else writeBackStep s

/-- The table events that come about inside a cause's step. -/
def causeEvents (s : State) : Cause → List StepEvent
  | .word w => (takeWord (sensorFields w) (s.work (sensorFields w).lane)).trace
  | .generator l => (generateInstant (s.work l)).trace
  | .writeBack => (writeBackWork s).elim [] fun x => x.2.trace

/-- A row that names an event: the whole step of its cause when the event comes about inside it. When it
does not, the row names nothing that happens (assumptions 3 and 4). -/
def namedEvent (e : StepEvent) (c : Cause) (s : State) : State :=
  if !s.resetHeld && (causeEvents s c).contains e then causeStep s c else s

/-- SIGNAL_LOST (R16, R17, R88). -/
def execSignalLost (c : Cause) (s : State) : Host.Outcome State Fault Refusal :=
  .next (namedEvent .signalLost c s)

/-- SIGNAL_RECOVERED (R16, R17, R88). -/
def execSignalRecovered (c : Cause) (s : State) : Host.Outcome State Fault Refusal :=
  .next (namedEvent .signalRecovered c s)

/-- TRACK_LOCK (R28). -/
def execTrackLock (c : Cause) (s : State) : Host.Outcome State Fault Refusal :=
  .next (namedEvent .trackLock c s)

/-- OUTLIER_LOSS_OF_LOCK (R31). -/
def execOutlierLossOfLock (c : Cause) (s : State) : Host.Outcome State Fault Refusal :=
  .next (namedEvent .outlierLossOfLock c s)

/-- TRACK_TIMEOUT (R32). -/
def execTrackTimeout (c : Cause) (s : State) : Host.Outcome State Fault Refusal :=
  .next (namedEvent .trackTimeout c s)

/-- RECORD_CLOSE (R93). -/
def execRecordClose (c : Cause) (s : State) : Host.Outcome State Fault Refusal :=
  .next (namedEvent .recordClose c s)

/-- TEMPLATE_SWAP (R73). -/
def execTemplateSwap (c : Cause) (s : State) : Host.Outcome State Fault Refusal :=
  .next (namedEvent .templateSwap c s)

/-- FLOOR_UPDATE (R132). -/
def execFloorUpdate (c : Cause) (s : State) : Host.Outcome State Fault Refusal :=
  .next (namedEvent .floorUpdate c s)

/-- SEGMENT_LENGTH_END (R149). -/
def execSegmentLengthEnd (c : Cause) (s : State) : Host.Outcome State Fault Refusal :=
  .next (namedEvent .segmentLengthEnd c s)

end Sys2Proof.Machine
end

