-- ==== Sys2Proof/Machine/SegmentCommands.lean ====
section
/-! DEFINITION. The segment commands (08, R145, R150, R152). -/

namespace Sys2Proof.Machine

/-- A slot is EMPTY. -/
def Slot.isEmpty : Slot → Bool
  | .empty => true
  | _ => false

/-- The slot a load goes into: A when both are EMPTY, and otherwise the EMPTY one (R145). -/
def Lane.slotToLoad (l : Lane) : Option SlotId :=
  if l.slotA.isEmpty then some .a else if l.slotB.isEmpty then some .b else none

/-- LOAD_SEGMENT on a lane, after the lane and length checks (R145). CLAMPED is answered when a code was
replaced, which the applied descriptor's bytes then show. -/
def loadSegmentBody (payload : List Byte) (w : Work) : Work × Answer :=
  if w.lane.state = .disabled then (w, refuse .wrongState)
  else match w.lane.slotToLoad with
    | none => (w, refuse .noSlot)
    | some i =>
      let d := Descriptor.ofPayload payload
      let l := w.lane.setSlot i (.loaded d)
      (w.setLane { l with loadOrder := l.loadOrder ++ [i] },
       ⟨okOrClamped (decide (d.encode ≠ payload)), i.code :: d.encode⟩)

/-- END_SEGMENT on a lane, after the lane and length checks (R150). -/
def endSegmentBody (payload : List Byte) (w : Work) : Work × Answer :=
  match slotOf (payload.getD 0 0) with
  | none => (w, refuse .badRange)
  | some i =>
    match w.lane.slot i with
    | .running d r _ m => (w.setLane (w.lane.setSlot i (.running d r true m)), ⟨.ok, []⟩)
    | .loaded _ =>
      let l := w.lane.setSlot i .empty
      (w.setLane { l with loadOrder := l.loadOrder.filter (· ≠ i) }, ⟨.ok, []⟩)
    | .empty | .finished _ _ _ => (w, refuse .notReady)

/-- COLLECT_REPORT on a lane, after the lane and length checks (R152). -/
def collectReportBody (payload : List Byte) (w : Work) : Work × Answer :=
  match slotOf (payload.getD 0 0) with
  | none => (w, refuse .badRange)
  | some i =>
    match w.lane.slot i with
    | .finished d r reason =>
      (w.setLane (w.lane.setSlot i .empty), ⟨.ok, reportBytes i d r reason⟩)
    | .empty | .loaded _ | .running _ _ _ _ => (w, refuse .notReady)

/-- LOAD_SEGMENT (R145). -/
def execLoadSegment (c : Command) (s : State) : Host.Outcome State Fault Refusal :=
  .next (takeLane 0x30 (fun n => n == 10) c (loadSegmentBody c.payload) s)

/-- END_SEGMENT (R150). -/
def execEndSegment (c : Command) (s : State) : Host.Outcome State Fault Refusal :=
  .next (takeLane 0x31 (fun n => n == 1) c (endSegmentBody c.payload) s)

/-- COLLECT_REPORT (R152). -/
def execCollectReport (c : Command) (s : State) : Host.Outcome State Fault Refusal :=
  .next (takeLane 0x32 (fun n => n == 1) c (collectReportBody c.payload) s)

end Sys2Proof.Machine
end

