-- ==== Sys2Proof/Machine/Tables.lean ====
section
/-! DEFINITION. Parameters and tables as the host writes and reads them (09, R164 to R168; 04, R77 to R80;
R102, R125, R135). -/

namespace Sys2Proof.Machine

/-! ### Parameters -/

/-- A template given a new length when it differs: zeroed, its cycle count 0 (R80). -/
def Template.resize (t : Template) (old new : Int) : Template :=
  if new = old then t else Template.zero new.toNat

/-- The owning block's consequences of a stored parameter write (R164, step 4; R80, R133, R135). `old` is
the value before the write. -/
def Lane.consequences (l : Lane) (p : Param) (old : Int) : Lane :=
  match p with
  | .samplesPerPerf => { l with sprocket := l.sprocket.resize old (l.params.get p) }
  | .linePeriod => { l with line := l.line.resize old (l.params.get p) }
  | .hissOpen | .hissDepth =>
    { l with gainTable := gainCurve (l.params.get .hissOpen) (l.params.get .hissDepth) }
  | .floorValue =>
    if l.state = .running then
      { l with run := { l.run with hiss := { l.run.hiss with floor := l.params.get p } } }
    else l
  | _ => l

/-- A parameter write that is taken: the applied value is stored, with its consequences (R164). -/
def Lane.writeParam (l : Lane) (p : Param) (v : Int) : Lane :=
  ({ l with params := l.params.put p (p.applied v) } : Lane).consequences p (l.params.get p)

/-- SET_PARAM on a lane, after the lane and length checks (R164). -/
def setParamBody (payload : List Byte) (w : Work) : Work × Answer :=
  let v := ofBeInt (field payload 2 4)
  match Param.ofId (ofBe (field payload 0 2)) with
  | none => (w, refuse .badParam)
  | some p =>
    if p.row.stoppedOnly && w.lane.state = .running then (w, refuse .wrongState)
    else
      (w.setLane (w.lane.writeParam p v),
       ⟨okOrClamped (decide (p.applied v ≠ v)), be 2 p.row.id ++ beInt 4 (p.applied v)⟩)

/-- GET_PARAM on a lane (R165). -/
def getParamBody (payload : List Byte) (w : Work) : Work × Answer :=
  match Param.ofId (ofBe (field payload 0 2)) with
  | none => (w, refuse .badParam)
  | some p => (w, ⟨.ok, be 2 p.row.id ++ beInt 4 (w.p p)⟩)

/-! ### Tables -/

/-- The seven tables (09, Tables). -/
inductive Table where
  | sprocketActive | sprocketLearning | lineActive | lineLearning | predictor | gain | defectQueue
  deriving DecidableEq, Repr

/-- The table of an id (09, Tables). -/
def Table.ofId (b : Byte) : Option Table :=
  [Table.sprocketActive, .sprocketLearning, .lineActive, .lineLearning, .predictor, .gain,
    .defectQueue][b.toNat]?

/-- The number of indices of a table; the templates follow the present P and Q (R166, R80). -/
def Table.size (l : Lane) : Table → Nat
  | .sprocketActive | .sprocketLearning => (l.params.get .samplesPerPerf).toNat
  | .lineActive | .lineLearning => (l.params.get .linePeriod).toNat
  | .predictor => 8
  | .gain => 64
  | .defectQueue => 32

/-- A named range is acceptable: a count of 1 to 256, within the table (R166). -/
def rangeOk (size first count : Nat) : Bool :=
  decide (1 ≤ count) && decide (count ≤ Config.tableCount) && decide (first + count ≤ size)

/-- One entry of a table as the host reads it (R77, R102, R125, R135, R166). -/
def Table.entry (l : Lane) (t : Table) (i : Nat) : List Byte :=
  match t with
  | .sprocketActive => beInt 4 (l.sprocket.active.getD i 0)
  | .sprocketLearning => beInt 4 (standsFor (l.sprocket.acc.getD i 0))
  | .lineActive => beInt 4 (l.line.active.getD i 0)
  | .lineLearning => beInt 4 (standsFor (l.line.acc.getD i 0))
  | .predictor => beInt 4 (l.predictor.getD i 0)
  | .gain => beInt 4 (l.gainTable.getD i 0)
  | .defectQueue => queueItem (if l.state = .running then l.run.queue.records[i]? else none)

/-- READ_TABLE on a lane, after the lane and length checks (R167). -/
def readTableBody (payload : List Byte) (w : Work) : Work × Answer :=
  let first := ofBe (field payload 1 2)
  let count := ofBe (field payload 3 2)
  match Table.ofId (payload.getD 0 0) with
  | none => (w, refuse .badTable)
  | some t =>
    if rangeOk (t.size w.lane) first count then
      (w, ⟨.ok, payload ++ (List.range count).flatMap fun i => t.entry w.lane (first + i)⟩)
    else (w, refuse .badRange)

/-- The clamp of a table's written entries (R78, R79, R125, R135). -/
def Table.clamp : Table → Int → Int
  | .predictor, v => clamp16 v
  | .gain, v => clampTo 0 32768 v
  | _, v => clamp24 v

/-- The values of a WRITE_TABLE payload: count entries of four bytes after the first five (R168). -/
def writtenValues (payload : List Byte) (count : Nat) : List Int :=
  (List.range count).map fun i => ofBeInt (field payload (5 + 4 * i) 4)

/-- A list with values written from an index upward. -/
def overwrite (l : List Int) (first : Nat) : List Int → List Int
  | [] => l
  | v :: vs => overwrite (l.set first v) (first + 1) vs

/-- A LEARNING write: each accumulator 256 times its value, and the cycle count 0 (R78). -/
def Template.writeLearning (t : Template) (first : Nat) (vs : List Int) : Template :=
  { t with acc := overwrite t.acc first (vs.map (256 * ·)), cycles := 0 }

/-- An ACTIVE write: the values alone (R79). -/
def Template.writeActive (t : Template) (first : Nat) (vs : List Int) : Template :=
  { t with active := overwrite t.active first vs }

/-- The effect of an accepted table write with clamped values (R78, R79, R125, R135). -/
def Lane.writeTable (l : Lane) (t : Table) (first : Nat) (vs : List Int) : Lane :=
  match t with
  | .sprocketActive => { l with sprocket := l.sprocket.writeActive first vs }
  | .sprocketLearning => { l with sprocket := l.sprocket.writeLearning first vs }
  | .lineActive => { l with line := l.line.writeActive first vs }
  | .lineLearning => { l with line := l.line.writeLearning first vs }
  | .predictor => { l with predictor := overwrite l.predictor first vs }
  | .gain => { l with gainTable := overwrite l.gainTable first vs }
  | .defectQueue => l

/-- A table that is written only while the lane is STOPPED or DISABLED (R79). -/
def Table.stoppedOnly : Table → Bool
  | .sprocketActive | .lineActive => true
  | _ => false

/-- WRITE_TABLE on a lane, after the lane check and the shortest length: its checks in the order of R168,
then the clamped values written in one event (R166). -/
def writeTableBody (payload : List Byte) (w : Work) : Work × Answer :=
  let first := ofBe (field payload 1 2)
  let count := ofBe (field payload 3 2)
  match Table.ofId (payload.getD 0 0) with
  | none | some .defectQueue => (w, refuse .badTable)
  | some t =>
    if !rangeOk (t.size w.lane) first count then (w, refuse .badRange)
    else if payload.length ≠ 5 + 4 * count then (w, refuse .badLength)
    else if t.stoppedOnly && w.lane.state = .running then (w, refuse .wrongState)
    else
      let vs := writtenValues payload count
      let cs := vs.map t.clamp
      (w.setLane (w.lane.writeTable t first cs), ⟨okOrClamped (decide (cs ≠ vs)), []⟩)

end Sys2Proof.Machine
end

