-- ==== Sys2Proof/Machine/TableCommands.lean ====
section
/-! DEFINITION. The parameter and table commands (09, R164 to R168). -/

namespace Sys2Proof.Machine

/-- SET_PARAM (R164). -/
def execSetParam (c : Command) (s : State) : Host.Outcome State Fault Refusal :=
  .next (takeLane 0x20 (fun n => n == 6) c (setParamBody c.payload) s)

/-- GET_PARAM (R165). -/
def execGetParam (c : Command) (s : State) : Host.Outcome State Fault Refusal :=
  .next (takeLane 0x21 (fun n => n == 2) c (getParamBody c.payload) s)

/-- READ_TABLE: a payload of exactly five bytes (R167). -/
def execReadTable (c : Command) (s : State) : Host.Outcome State Fault Refusal :=
  .next (takeLane 0x22 (fun n => n == 5) c (readTableBody c.payload) s)

/-- WRITE_TABLE: a payload of at least five bytes; its exact length is checked after the range (R168). -/
def execWriteTable (c : Command) (s : State) : Host.Outcome State Fault Refusal :=
  .next (takeLane 0x23 (fun n => decide (5 ≤ n)) c (writeTableBody c.payload) s)

end Sys2Proof.Machine
end

