-- ==== Sys2Proof/Machine/Dispatch.lean ====
section
/-! DEFINITION. One arm for each command. -/

namespace Sys2Proof.Machine

def exec (i : Instr) (s : State) : Host.Outcome State Fault Refusal :=
  match i with
  | .identify c => Sys2Proof.Machine.execIdentify c s
  | .deviceReset c => Sys2Proof.Machine.execDeviceReset c s
  | .resetAfterReply => Sys2Proof.Machine.execResetAfterReply s
  | .getLinkStats c => Sys2Proof.Machine.execGetLinkStats c s
  | .clearLinkStats c => Sys2Proof.Machine.execClearLinkStats c s
  | .enableLane c => Sys2Proof.Machine.execEnableLane c s
  | .disableLane c => Sys2Proof.Machine.execDisableLane c s
  | .startLane c => Sys2Proof.Machine.execStartLane c s
  | .stopLane c => Sys2Proof.Machine.execStopLane c s
  | .resetLane c => Sys2Proof.Machine.execResetLane c s
  | .defaultLane c => Sys2Proof.Machine.execDefaultLane c s
  | .queryLane c => Sys2Proof.Machine.execQueryLane c s
  | .setNoticeMask c => Sys2Proof.Machine.execSetNoticeMask c s
  | .setParam c => Sys2Proof.Machine.execSetParam c s
  | .getParam c => Sys2Proof.Machine.execGetParam c s
  | .readTable c => Sys2Proof.Machine.execReadTable c s
  | .writeTable c => Sys2Proof.Machine.execWriteTable c s
  | .loadSegment c => Sys2Proof.Machine.execLoadSegment c s
  | .endSegment c => Sys2Proof.Machine.execEndSegment c s
  | .collectReport c => Sys2Proof.Machine.execCollectReport c s
  | .unknownKind kind c => Sys2Proof.Machine.execUnknownKind kind c s
  | .resetnAsserted => Sys2Proof.Machine.execResetnAsserted s
  | .resetnReleased => Sys2Proof.Machine.execResetnReleased s
  | .sensorWord w => Sys2Proof.Machine.execSensorWord w s
  | .perfEdge lane => Sys2Proof.Machine.execPerfEdge lane s
  | .spliceEdge lane => Sys2Proof.Machine.execSpliceEdge lane s
  | .generatorInstant lane => Sys2Proof.Machine.execGeneratorInstant lane s
  | .signalLost cause => Sys2Proof.Machine.execSignalLost cause s
  | .signalRecovered cause => Sys2Proof.Machine.execSignalRecovered cause s
  | .trackLock cause => Sys2Proof.Machine.execTrackLock cause s
  | .outlierLossOfLock cause => Sys2Proof.Machine.execOutlierLossOfLock cause s
  | .trackTimeout cause => Sys2Proof.Machine.execTrackTimeout cause s
  | .recordClose cause => Sys2Proof.Machine.execRecordClose cause s
  | .templateSwap cause => Sys2Proof.Machine.execTemplateSwap cause s
  | .floorUpdate cause => Sys2Proof.Machine.execFloorUpdate cause s
  | .segmentLengthEnd cause => Sys2Proof.Machine.execSegmentLengthEnd cause s
  | .jobLoad => Sys2Proof.Machine.execJobLoad s
  | .jobCompletion => Sys2Proof.Machine.execJobCompletion s
  | .writeBack => Sys2Proof.Machine.execWriteBack s
  | .frameReceived codes => Sys2Proof.Machine.execFrameReceived codes s
  | .replyEntry => Sys2Proof.Machine.execReplyEntry s
  | .noticeFormed latch => Sys2Proof.Machine.execNoticeFormed latch s
  | .frameSent => Sys2Proof.Machine.execFrameSent s

end Sys2Proof.Machine
end

