-- ==== Sys2Proof/Machine/Step.lean ====
section
/-! DEFINITION. One step of the part: the command that waits first is taken (assumption 1). -/

namespace Sys2Proof.Machine

/-- Takes the front command of the waiting ones and runs it on everything but their queue (assumption 1);
with none waiting the transmitter may send an idle character (R158, assumption 35). -/
def step (s : State) : Host.Outcome State Fault Refusal :=
  match s.pending with
  | [] => .next (idleTick s)
  | c :: rest => exec c { s with pending := rest }

/-- The state with the command that a table word spells put at the front of the waiting ones; no word
spells one (assumption 30). -/
def State.withFetchWord (s : State) (nbits w : Nat) : State :=
  match decodeTableWord nbits w with
  | some c => { s with pending := c :: s.pending }
  | none => s

end Sys2Proof.Machine
end

