-- ==== Sys2Proof/Safety.lean ====
section
/-! DEFINITION. What a safe state of the part is: the bounds and agreements the spec states of each
collection, which every step is to keep, and the terms in which the claims speak of commands. -/

namespace Sys2Proof.Machine

/-! ### Lanes -/

/-- A lane satisfies a property in every place of the state. -/
abbrev State.EachLane (P : Lane → Prop) (s : State) : Prop := ∀ i : LaneId, P s.lanes[i]

/-- Every parameter lies in its range (R164). -/
abbrev Lane.ParamsOk (l : Lane) : Prop :=
  ∀ p ∈ Param.all, p.row.low ≤ l.params.get p ∧ l.params.get p ≤ p.row.high

/-- A signed 24-bit value (00, Sample values). -/
abbrev In24 (v : Int) : Prop := -8388608 ≤ v ∧ v ≤ 8388607

/-- A template of n entries within the ranges of R64. -/
abbrev Template.Ok (n : Int) (t : Template) : Prop :=
  (t.active.length : Int) = n ∧ (t.acc.length : Int) = n ∧ t.cycles ≤ 255 ∧
    (∀ v ∈ t.active, In24 v) ∧ ∀ a ∈ t.acc, -2147483648 ≤ a ∧ a ≤ 2147483392

/-- The tables of a lane's configuration have their lengths and ranges (R64, R125, R135). -/
abbrev Lane.TablesOk (l : Lane) : Prop :=
  l.sprocket.Ok (l.params.get .samplesPerPerf) ∧ l.line.Ok (l.params.get .linePeriod) ∧
    l.predictor.length = 8 ∧ (∀ v ∈ l.predictor, -32768 ≤ v ∧ v ≤ 32767) ∧
    l.gainTable.length = 64 ∧ ∀ g ∈ l.gainTable, 0 ≤ g ∧ g ≤ 32768

/-- E of a RUNNING lane lies in [128·NOM, 512·NOM] (R25). -/
abbrev Lane.TrackerOk (l : Lane) : Prop :=
  l.state = .running →
    128 * l.params.get .nom ≤ l.run.tracker.e ∧ l.run.tracker.e ≤ 512 * l.params.get .nom

/-- The ring's bounds, and its positions consecutive up to the one before the next output (R47, R55). -/
abbrev Lane.RingOk (l : Lane) : Prop :=
  l.run.ring.tail.length ≤ 8 ∧ l.run.ring.fill ≤ 2048 ∧
    (l.run.ring.tail ++ l.run.ring.window).IsChain (fun a b => b.pos = a.pos + 1) ∧
    ∀ e ∈ (l.run.ring.tail ++ l.run.ring.window).getLast?, l.run.resampler.nextPos = e.pos + 1

/-- The queue's bound and the records' longest length (R89, R97). -/
abbrev Lane.QueueOk (l : Lane) : Prop :=
  l.run.queue.records.length ≤ 32 ∧
    ∀ r ∈ l.run.queue.records, 1 ≤ spanLength r.start r.stop ∧ spanLength r.start r.stop ≤ 1024

/-- How far a position lies ahead of the next output's, negative for one behind it (R42). -/
def Lane.ahead (l : Lane) (p : Pos) : Int := posDiff p l.run.resampler.nextPos

/-- The records of a lane are in order (R47, R48, R89 to R91, R94, R97): a lane that is not RUNNING holds no
record and no entry; only the newest record may be OPEN; ids are consecutive up to the next id; spans rise
without overlapping, each of at most 1,024 positions, with its end in the window or less than 48 beyond
it; an OPEN record starts in the window, and one that starts beyond it follows another at once; the last
end is the newest closed record's; and each window entry's link names the record that covers it. The tail
holds an entry only when the window holds LOOKAHEAD of them (R51). -/
abbrev Lane.RecordsOk (l : Lane) : Prop :=
  (l.state ≠ .running → l.run.queue.records = [] ∧ l.run.ring = ⟨[], []⟩) ∧
    (l.run.ring.tail ≠ [] → l.params.get .lookahead ≤ (l.run.ring.window.length : Int)) ∧
    (∀ r ∈ l.run.queue.records.dropLast, r.state ≠ .opened) ∧
    l.run.queue.records.map (·.id) =
      (List.range l.run.queue.records.length).map (fun i =>
        l.run.detector.nextId - BitVec.ofNat 16 (l.run.queue.records.length - i)) ∧
    l.run.queue.records.Pairwise (fun a b => l.ahead a.stop < l.ahead b.start) ∧
    (∀ r ∈ l.run.queue.records,
      -(l.run.ring.window.length : Int) ≤ l.ahead r.stop ∧ l.ahead r.stop ≤ 47 ∧
        l.ahead r.start ≤ l.ahead r.stop ∧ l.ahead r.stop - l.ahead r.start ≤ 1023 ∧
        (r.state = .opened → -(l.run.ring.window.length : Int) ≤ l.ahead r.start) ∧
        (0 ≤ l.ahead r.start → ∃ a ∈ l.run.queue.records, a.stop + 1 = r.start)) ∧
    (∀ c ∈ (l.run.queue.records.filter (fun r => decide (r.state ≠ .opened))).getLast?,
      l.run.detector.lastEnd = some c.stop) ∧
    ∀ e ∈ l.run.ring.window, e.link = l.run.queue.covering e.pos

/-- The reducer of a RUNNING lane keeps its ranges (R129, R132, R134). -/
abbrev Lane.HissOk (l : Lane) : Prop :=
  l.state = .running →
    0 ≤ l.run.hiss.level ∧ 1 ≤ l.run.hiss.floor ∧ 0 ≤ l.run.hiss.gain ∧ l.run.hiss.gain ≤ 32768

/-- A slot is LOADED. -/
def Slot.isLoaded : Slot → Bool
  | .loaded _ => true
  | _ => false

/-- At most one slot is RUNNING, only on a RUNNING lane, and the load order lists the LOADED slots, each
once (R144, R145). A lane that is not RUNNING holds no record, so that no write-back can release entries
there (R97, R98). -/
abbrev Lane.SlotsOk (l : Lane) : Prop :=
  ¬(l.slotA.isRunning = true ∧ l.slotB.isRunning = true) ∧
    (l.slotA.isRunning = true ∨ l.slotB.isRunning = true → l.state = .running) ∧
    (l.state ≠ .running → l.run.queue.records = []) ∧
    l.loadOrder.Nodup ∧
    (.a ∈ l.loadOrder ↔ l.slotA.isLoaded = true) ∧ (.b ∈ l.loadOrder ↔ l.slotB.isLoaded = true)

/-! ### The engine and the link -/

/-- A bank is LOADED. -/
def Bank.isLoaded : Bank → Bool
  | .loaded _ => true
  | _ => false

/-- A bank is FINISHED. -/
def Bank.isFinished : Bank → Bool
  | .finished _ _ => true
  | _ => false

/-- At most one bank is RUNNING, a bank is LOADED only while the other is RUNNING, and the order of
completion lists the FINISHED banks, each once (R114, R117). -/
abbrev Engine.Ok (e : Engine) : Prop :=
  ¬(e.banks[0].isRunning = true ∧ e.banks[1].isRunning = true) ∧
    (e.banks[0].isLoaded = true → e.banks[1].isRunning = true) ∧
    (e.banks[1].isLoaded = true → e.banks[0].isRunning = true) ∧
    e.finishOrder.Nodup ∧
    (0 ∈ e.finishOrder ↔ e.banks[0].isFinished = true) ∧
    (1 ∈ e.finishOrder ↔ e.banks[1].isFinished = true)

/-- The bank's job when the bank stands where a record of the given state has it: LOADED for a LOADED
record, RUNNING or FINISHED for an IN_REPAIR one (R114). -/
def Bank.jobFor (st : RecordState) : Bank → Option Job
  | .loaded j => if st = .loaded then some j else none
  | .running j | .finished j _ => if st = .inRepair then some j else none
  | .empty => none

/-- Every LOADED or IN_REPAIR record is held by the bank it names, which holds this record's job of this
run, and is LOADED for a LOADED record and RUNNING or FINISHED for an IN_REPAIR one (R113, R114). -/
abbrev State.RecordsHeld (s : State) : Prop :=
  ∀ l : LaneId, ∀ r ∈ s.lanes[l].run.queue.records, r.state = .loaded ∨ r.state = .inRepair →
    ∃ (b : BankId), r.holding = some b ∧ ∃ j ∈ (s.engine.banks[b]).jobFor r.state,
      j.lane = l ∧ j.runNumber = s.lanes[l].runNumber ∧ j.recordId = r.id

/-- The queues' bounds, and the largest inbound payload (R158, R160, R170). -/
abbrev Link.Ok (k : Link) : Prop :=
  k.inbound.length ≤ 8 ∧ (∀ f ∈ k.inbound, f.payload.length ≤ 1280) ∧ usedBytes k.outbound ≤ 65536

/-! ### Records and segments -/

/-- The ring whose window entries of a record's span, where they are not yet covered, are covered by it
(R91). -/
abbrev Ring.covered (g : Ring) (r : DefectRecord) : Ring :=
  { g with
    window := g.window.map fun e : Entry =>
      if e.link = none ∧ (e.pos - r.start).toNat ≤ (r.stop - r.start).toNat then
        { e with defect := true, link := some r.id } else e }

/-- The lane on which a record has opened: at the end of the queue, its entries covered, the next id advanced
and the quiet sums cleared (R89 to R91, R96). -/
abbrev Lane.withOpened (l : Lane) (r : DefectRecord) : Lane :=
  { l with
    run := { l.run with
      ring := l.run.ring.covered r
      queue := { l.run.queue with records := l.run.queue.records ++ [r] }
      detector := { l.run.detector with nextId := l.run.detector.nextId + 1, quietA := 0, quietB := 0 } } }

/-- The lane after an attempt to open a record at a full queue: a drop, counted in the running segment, that
raises QUEUE_FULL once (R99). -/
abbrev Lane.withDrop (l : Lane) : Lane :=
  { l.count fun t => { t with recordsDropped := min (t.recordsDropped + 1) 4294967295 } with
    latch := if l.run.queue.fullNotice = true then l.latch else l.latch ||| (0x10 &&& l.mask)
    run := { l.run with queue := { l.run.queue with fullNotice := true } } }

/-- How far beyond its own position an examined entry's demand reaches: 2 for a firing, S − 1 for a splice of
S positions (R90, R92, R95). -/
abbrev Demand.beyond (d : Demand) : Nat := max (if d.fires = true then 2 else 0) (d.splice - 1)

/-- The lane with a counter of the running segment's report changed, and unchanged when none is RUNNING
(R154). -/
abbrev Lane.Counts (l l' : Lane) (f : Report → Report) : Prop :=
  (l.runningSlot = none → l' = l) ∧
    ∀ (i : SlotId) (d : Descriptor) (r : Report) (q : Bool) (m : Nat), l.runningSlot = some i →
      l.slot i = .running d r q m → l' = l.setSlot i (.running d (f r) q m)

/-- A departing entry meets a descriptor's start condition (R147, its table). -/
abbrev Descriptor.Meets (d : Descriptor) (e : Entry) : Prop :=
  d.start = .immediate ∨ d.start = .atPerf ∧ e.perfMark = true ∨
    d.start = .atSplice ∧ e.spliceMark = true

/-! ### Commands by their kinds -/

/-- The device commands: kind and row. -/
def deviceRows : List (Byte × (Command → Instr)) :=
  [(0x01, .identify), (0x02, .deviceReset), (0x03, .getLinkStats), (0x04, .clearLinkStats)]

/-- The lane commands whose payload has one length: kind, length and row (09, the command catalogue).
SET_NOTICE_MASK, which the device takes too, and WRITE_TABLE are not among them. -/
def laneRows : List (Byte × Nat × (Command → Instr)) :=
  [(0x10, 0, .enableLane), (0x11, 0, .disableLane), (0x12, 0, .startLane), (0x13, 0, .stopLane),
   (0x14, 0, .resetLane), (0x15, 0, .defaultLane), (0x16, 0, .queryLane),
   (0x20, 6, .setParam), (0x21, 2, .getParam), (0x22, 5, .readTable),
   (0x30, 10, .loadSegment), (0x31, 1, .endSegment), (0x32, 1, .collectReport)]

/-- Every command of the catalogue: kind and row. -/
def commandRows : List (Byte × (Command → Instr)) :=
  deviceRows ++ laneRows.map (fun r => (r.1, r.2.2)) ++ [(0x17, .setNoticeMask), (0x23, .writeTable)]

/-- The decoder can take a command of this kind now (R161). -/
abbrev State.Takes (s : State) (kind : Byte) (c : Command) : Prop :=
  s.canTake (commandFrame kind c) = true

/-- The state after a command that is answered with a status and data and changes nothing more: the front
frame has left the inbound queue and the reply waits (R161, R162). -/
abbrev State.answered (s : State) (kind : Byte) (c : Command) (status : Byte) (data : List Byte) :
    State :=
  { s with
    link := { s.link with
      inbound := s.link.inbound.tail
      waiting := some ⟨kind + 0x80, c.tag, c.lane, status :: data⟩ } }

/-- The state with one lane replaced. -/
abbrev State.withLane (s : State) (l : LaneId) (x : Lane) : State :=
  { s with lanes := s.lanes.set l.val x l.isLt }

/-- Two states differ at most in lane l, the outbound queue and the count of stream drops: nothing else of
the part and no other lane has changed. -/
abbrev OnlyLane (l : LaneId) (s t : State) : Prop :=
  (∀ i : LaneId, i ≠ l → t.lanes[i] = s.lanes[i]) ∧ t.engine = s.engine ∧
    t.resetHeld = s.resetHeld ∧ t.pending = s.pending ∧
    t.link.inbound = s.link.inbound ∧ t.link.waiting = s.link.waiting ∧
    t.link.taking = s.link.taking ∧ t.link.deviceMask = s.link.deviceMask ∧
    t.link.deviceLatch = s.link.deviceLatch ∧ t.link.txLine = s.link.txLine ∧
    t.link.txDisparity = s.link.txDisparity ∧
    t.link.stats.crcErrors = s.link.stats.crcErrors ∧
    t.link.stats.oversize = s.link.stats.oversize ∧
    t.link.stats.overflows = s.link.stats.overflows

/-- What a lane keeps of its configuration through any event of its blocks: everything but the templates'
contents (R1, R64, R125, R135, R165, R172). -/
abbrev SameConfiguration (l l' : Lane) : Prop :=
  l'.state = l.state ∧ l'.runNumber = l.runNumber ∧ l'.params = l.params ∧
    l'.predictor = l.predictor ∧ l'.gainTable = l.gainTable ∧ l'.mask = l.mask

/-- The signal state, dark run and recovery run after an instant of quality q (R16, its table). -/
def signalAfter (f : FrontEnd) (q : Quality) : SignalState × Nat × Nat :=
  if f.signal = .ok then
    if q = .dark then
      if 64 ≤ f.darkRun + 1 then (.lost, 0, 0) else (.ok, f.darkRun + 1, f.recoveryRun)
    else (.ok, 0, f.recoveryRun)
  else if q = .dark then (.lost, f.darkRun, 0)
  else if 64 ≤ f.recoveryRun + 1 then (.ok, 0, 0) else (.lost, f.darkRun, f.recoveryRun + 1)

/-- Lane l has completed one instant of value x, halves and quality q: the index has advanced, the signal
state follows R16, the held edges and the pending word are as given, the instant is the resampler's
previous one with its suspect mark, and nothing outside the lane has changed but the outbound queue and
the count of stream drops (R13, R15, R16, R19, R39). -/
abbrev Completed (l : LaneId) (s t : State) (x : Int) (halves : Option Halves) (q : Quality)
    (pendingA : Option PendingWord) (edges : List EdgeKind) : Prop :=
  OnlyLane l s t ∧ SameConfiguration s.lanes[l] t.lanes[l] ∧
    t.lanes[l].front =
      { pendingA, heldEdges := edges
        nextIndex := s.lanes[l].front.nextIndex + 1
        signal := (signalAfter s.lanes[l].front q).1
        darkRun := (signalAfter s.lanes[l].front q).2.1
        recoveryRun := (signalAfter s.lanes[l].front q).2.2
        holdValue := t.lanes[l].front.holdValue } ∧
    t.lanes[l].run.resampler.prev =
      some ⟨x, halves, decide (q ≠ .ok ∧ (signalAfter s.lanes[l].front q).1 = .ok),
        s.lanes[l].front.nextIndex⟩

/-- Lane l takes sensor words: RESETn high, RUNNING, SOURCE at SENSOR (R11). -/
abbrev State.ListensTo (s : State) (l : LaneId) : Prop :=
  s.resetHeld = false ∧ s.lanes[l].state = .running ∧ s.lanes[l].params.get .source = 0

/-- The instant that a cause completes on lane l, as its quality and the edges attached to it; none when it
completes none there. A word completes one on a lane that listens, on a dual-rail lane only as the B word of
a pending A word, with the worse of the two qualities, and takes the held edges (R12, R13, R20). A generated
instant has quality OK, PERF at every NOM-th instant and SPLICE with every S-th perforation after the first
(R22, R24; the counts: assumption 8). -/
def State.completes (s : State) (l : LaneId) : Cause → Option (Quality × List EdgeKind)
  | .word w =>
    if s.ListensTo l ∧ (sensorFields w).lane = l then
      if s.lanes[l].params.get .railMode = 1 then
        match (sensorFields w).half, s.lanes[l].front.pendingA with
        | .b, some a =>
          some
            (if a.quality = .dark ∨ (sensorFields w).quality = .dark then .dark
             else if a.quality = .clipped ∨ (sensorFields w).quality = .clipped then .clipped else .ok,
             s.lanes[l].front.heldEdges)
        | _, _ => none
      else some ((sensorFields w).quality, s.lanes[l].front.heldEdges)
    else none
  | .generator m =>
    if s.resetHeld = false ∧ s.lanes[l].state = .running ∧ s.lanes[l].params.get .source = 1 ∧ m = l then
      some
        (.ok,
         if s.lanes[l].run.generator.perfGap ≠ 0 then []
         else if 1 ≤ s.lanes[l].params.get .genSpliceSpacing ∧ 1 ≤ s.lanes[l].run.generator.perfCount ∧
            (s.lanes[l].run.generator.perfCount : Int) % s.lanes[l].params.get .genSpliceSpacing = 0 then
          [.perf, .splice]
         else [.perf])
    else none
  | .writeBack => none

/-- The causes of a record as the wire spells them: IMPULSE 1, ASYMMETRY 2, SENSOR 4, SPLICE 8 (Formats,
Defect report payload). -/
def causesByte (c : Causes) : Byte :=
  (if c.impulse = true then 1 else 0) + (if c.asymmetry = true then 2 else 0) +
    (if c.sensor = true then 4 else 0) + (if c.splice = true then 8 else 0)

/-- The repair kind and the clean half of a record as the wire spells them, 0 for absent
(Formats, Defect report payload). -/
def repairBytes (kind : Option RepairKind) (half : Option Half) : List Byte :=
  [if kind = some .interpolate then 1 else if kind = some .half then 2 else 0,
   if half = some .a then 1 else if half = some .b then 2 else 0]

/-- The stored values of a table; none for DEFECT_QUEUE, whose items are no numbers (09, Tables). -/
def Table.values (l : Lane) : Table → List Int
  | .sprocketActive => l.sprocket.active
  | .sprocketLearning => l.sprocket.acc
  | .lineActive => l.line.active
  | .lineLearning => l.line.acc
  | .predictor => l.predictor
  | .gain => l.gainTable
  | .defectQueue => []

/-- The range of a table's written entries (R78, R79, R125, R135). -/
def Table.range : Table → Int × Int
  | .predictor => (-32768, 32767)
  | .gain => (0, 32768)
  | _ => (-8388608, 8388607)

/-- What a table stores for a value: a LEARNING bank holds 256 times it (R78). -/
def Table.stored : Table → Int → Int
  | .sprocketLearning, v | .lineLearning, v => 256 * v
  | _, v => v

/-- The lane with the cycle count of a written template cleared, where the table is a LEARNING bank
(R78). -/
def Table.clearedCount (t : Table) (l : Lane) : Nat × Nat :=
  match t with
  | .sprocketLearning => (0, l.line.cycles)
  | .lineLearning => (l.sprocket.cycles, 0)
  | _ => (l.sprocket.cycles, l.line.cycles)

/-- All that a lane's detection, tracking and hum work from: everything but the slots, the former, the
dither register, the mask and the latch (R105). -/
abbrev SameSignalPath (l l' : Lane) : Prop :=
  l'.state = l.state ∧ l'.params = l.params ∧ l'.front = l.front ∧ l'.sprocket = l.sprocket ∧
    l'.line = l.line ∧ l'.predictor = l.predictor ∧ l'.gainTable = l.gainTable ∧
    l'.run.generator = l.run.generator ∧ l'.run.tracker = l.run.tracker ∧
    l'.run.resampler = l.run.resampler ∧ l'.run.ring = l.run.ring ∧ l'.run.hum = l.run.hum ∧
    l'.run.detector = l.run.detector ∧ l'.run.queue = l.run.queue ∧ l'.run.hiss = l.run.hiss

/-- The row of the table that names an event (95). -/
def StepEvent.row : StepEvent → Cause → Instr
  | .signalLost => .signalLost
  | .signalRecovered => .signalRecovered
  | .trackLock => .trackLock
  | .outlierLossOfLock => .outlierLossOfLock
  | .trackTimeout => .trackTimeout
  | .recordClose => .recordClose
  | .templateSwap => .templateSwap
  | .floorUpdate => .floorUpdate
  | .segmentLengthEnd => .segmentLengthEnd

/-- The row of the table that is a cause's whole step. -/
def causeRow : Cause → Instr
  | .word w => .sensorWord w
  | .generator l => .generatorInstant l
  | .writeBack => .writeBack

end Sys2Proof.Machine
end

