-- ==== Sys2Proof/Certificates/Slice0/Obligations.lean ====
section
/-! DEFINITION. The statements for the provers. Each says in its docstring which rules of spec/ it
formalises, and which log entry a clause rests on where the choice is the model's. -/

open Sys2Proof Sys2Proof.Machine

/-! ### The step and the command decoder -/

/-- The model's choice (assumption 1): a step runs the front command on everything but the queue. On an empty
queue nothing happens but the model's tick (assumption 35): a transmitter with no frame to send sends one
idle character, K28.5 (R158; its codes: assumption 34), and none while RESETn is low. -/
def Obligations.StepTakesFrontCommand : Prop :=
  (∀ (c : Instr) (rest : List Instr) (s : State),
    s.pending = c :: rest → step s = exec c { s with pending := rest }) ∧
  ∀ s : State, s.pending = [] →
    (s.resetHeld = false → s.link.outbound = [] →
      step s = .next
        { s with
          link := { s.link with
            txLine := [if s.link.txDisparity = .minus then 0b0011111010 else 0b1100000101]
            txDisparity := if s.link.txDisparity = .minus then .plus else .minus } }) ∧
    (s.resetHeld = true ∨ s.link.outbound ≠ [] → step s = .next s)

/-- R161, with assumptions 2 and 3: the decoder can take a frame when the reply before it has entered the
outbound queue and it is the inbound queue's front or arrives at an empty one; and at no other moment
does a command row change anything. -/
def Obligations.CommandsTakenInTurn : Prop :=
  ∀ (k : Byte) (row : Command → Instr) (c : Command) (s : State), (k, row) ∈ commandRows →
    (s.Takes k c ↔
      s.resetHeld = false ∧ s.link.taking = true ∧ s.link.waiting = none ∧
        c.payload.length ≤ 1280 ∧
        (s.link.inbound = [] ∨
          ∃ rest, s.link.inbound = (⟨k, c.tag, c.lane, c.payload⟩ : Frame) :: rest)) ∧
    (¬ s.Takes k c → exec (row c) s = .next s)

/-- R162, steps 1 to 3, R8 and R10: a kind that is no command kind is answered UNKNOWN_KIND with reply kind
0xFF, a lane field that does not suit the command BAD_LANE, and then a payload length that is not the
command's BAD_LENGTH; nothing else changes. -/
def Obligations.FrameChecksInOrder : Prop :=
  (∀ (k : Byte) (c : Command) (s : State),
    k ∉ [0x01, 0x02, 0x03, 0x04, 0x10, 0x11, 0x12, 0x13, 0x14, 0x15, 0x16, 0x17, 0x20, 0x21, 0x22,
      0x23, 0x30, 0x31, 0x32] →
    s.Takes k c →
    exec (.unknownKind k c) s = .next
      { s with
        link := { s.link with
          inbound := s.link.inbound.tail, waiting := some ⟨0xFF, c.tag, c.lane, [10]⟩ } }) ∧
  (∀ (k : Byte) (row : Command → Instr) (c : Command) (s : State), (k, row) ∈ deviceRows →
    s.Takes k c →
      (c.lane ≠ 255 → exec (row c) s = .next (s.answered k c 5 [])) ∧
      (c.lane = 255 → c.payload ≠ [] → exec (row c) s = .next (s.answered k c 9 []))) ∧
  (∀ (k : Byte) (n : Nat) (row : Command → Instr) (c : Command) (s : State), (k, n, row) ∈ laneRows →
    s.Takes k c →
      (8 ≤ c.lane.toNat → exec (row c) s = .next (s.answered k c 5 [])) ∧
      (c.lane.toNat < 8 → c.payload.length ≠ n → exec (row c) s = .next (s.answered k c 9 []))) ∧
  (∀ (c : Command) (s : State), s.Takes 0x17 c →
      (8 ≤ c.lane.toNat → c.lane ≠ 255 →
        exec (.setNoticeMask c) s = .next (s.answered 0x17 c 5 [])) ∧
      (c.lane.toNat < 8 ∨ c.lane = 255 → c.payload.length ≠ 1 →
        exec (.setNoticeMask c) s = .next (s.answered 0x17 c 9 []))) ∧
  ∀ (c : Command) (s : State), s.Takes 0x23 c →
      (8 ≤ c.lane.toNat → exec (.writeTable c) s = .next (s.answered 0x23 c 5 [])) ∧
      (c.lane.toNat < 8 → c.payload.length < 5 →
        exec (.writeTable c) s = .next (s.answered 0x23 c 9 []))

/-! ### Device commands, reset, statistics -/

/-- R163: IDENTIFY answers the 15 bytes of the identity, and changes nothing else. -/
def Obligations.IdentifyReplies : Prop :=
  ∀ (c : Command) (s : State), s.Takes 0x01 c → c.lane = 255 → c.payload = [] →
    exec (.identify c) s = .next
      (s.answered 0x01 c 0
        [0x08, 0x40, 1, 8, 8, 0x05, 0x00, 0x00, 0x01, 0x00, 0x00, 0x10, 0x00, 0x0C, 0x80])

/-- R10: DEVICE_RESET stops the taking of commands and answers OK; when that reply has been sent whole, the
part has its device-reset state, by RESET_AFTER_REPLY and by FRAME_SENT alike (assumption 31). The
line's last codes are the model's own observation (assumptions 18 and 34). -/
def Obligations.DeviceResetTakesAndResets : Prop :=
  (∀ (c : Command) (s : State), s.Takes 0x02 c → c.lane = 255 → c.payload = [] →
    exec (.deviceReset c) s = .next
      { s with
        link := { s.link with
          taking := false
          inbound := s.link.inbound.tail
          waiting := some ⟨0x82, c.tag, 255, [0]⟩ } }) ∧
  ∀ (s : State) (f : Frame) (rest : List Frame), s.resetHeld = false → s.link.taking = false →
    s.link.outbound = f :: rest → f.kind = 0x82 → f.payload = [0] →
    exec .resetAfterReply s = .next
        { State.reset with
          pending := s.pending
          link := { State.reset.link with txLine := lineCodes s.link.txDisparity f.line } } ∧
      exec .frameSent s = exec .resetAfterReply s

/-- R9 and R159, with assumption 6: while RESETn is low the part holds its device-reset values and no row of
the table but the pin's own two changes anything, and at the release every piece of state has its
device-reset value. -/
def Obligations.ResetLineHoldsAndReleases : Prop :=
  ∀ s : State,
    exec .resetnAsserted s = .next { State.reset with resetHeld := true, pending := s.pending } ∧
    (s.resetHeld = true →
      exec .resetnReleased s = .next { State.reset with pending := s.pending } ∧
      ∀ i : Instr, i ≠ .resetnAsserted → i ≠ .resetnReleased → exec i s = .next s)

/-- R9 (its table), R4, R64, R106, R125, R135, R144, R160, R170, R172 to R174: the values after device
reset. -/
def Obligations.ResetStateValues : Prop :=
  (∀ i : LaneId,
    (State.reset.lanes[i]).state = .disabled ∧ (State.reset.lanes[i]).runNumber = 0 ∧
    (∀ p : Param, (State.reset.lanes[i]).params.get p = p.row.default) ∧
    (State.reset.lanes[i]).sprocket = ⟨List.replicate 500 0, List.replicate 500 0, 0⟩ ∧
    (State.reset.lanes[i]).line = ⟨List.replicate 960 0, List.replicate 960 0, 0⟩ ∧
    (State.reset.lanes[i]).predictor = [8192, -4096, 0, 0, 0, 0, 0, 0] ∧
    (State.reset.lanes[i]).gainTable = (List.range 64).map (fun k : Nat =>
      if 24 ≤ k then (32768 : Int) else max 8192 (32768 * (k : Int) / 24)) ∧
    (State.reset.lanes[i]).front.signal = .ok ∧ (State.reset.lanes[i]).front.darkRun = 0 ∧
    (State.reset.lanes[i]).front.recoveryRun = 0 ∧ (State.reset.lanes[i]).front.holdValue = 0 ∧
    (State.reset.lanes[i]).front.pendingA = none ∧ (State.reset.lanes[i]).front.heldEdges = [] ∧
    (State.reset.lanes[i]).run.ring = ⟨[], []⟩ ∧ (State.reset.lanes[i]).run.queue.records = [] ∧
    (State.reset.lanes[i]).slotA = .empty ∧ (State.reset.lanes[i]).slotB = .empty ∧
    (State.reset.lanes[i]).mask = 0 ∧ (State.reset.lanes[i]).latch = 0) ∧
  State.reset.engine.banks[0] = .empty ∧ State.reset.engine.banks[1] = .empty ∧
  State.reset.engine.pointer = 7 ∧
  State.reset.link.inbound = [] ∧ State.reset.link.outbound = [] ∧
  State.reset.link.stats = ⟨0, 0, 0, 0⟩ ∧ State.reset.link.deviceMask = false ∧
  State.reset.link.deviceLatch = false

/-- R174: GET_LINK_STATS answers the four counters in the order of the table, and CLEAR_LINK_STATS sets all
four to 0. R169 and the QUERY_LANE layout, with R25, R50 and R97: the snapshot's 15 bytes. None of the three
changes anything else. -/
def Obligations.StatisticsAndSnapshot : Prop :=
  (∀ (c : Command) (s : State), c.lane = 255 → c.payload = [] →
    (s.Takes 0x03 c → exec (.getLinkStats c) s = .next
      (s.answered 0x03 c 0
        (be 4 s.link.stats.crcErrors ++ be 4 s.link.stats.oversize ++ be 4 s.link.stats.overflows ++
          be 4 s.link.stats.streamDrops))) ∧
    (s.Takes 0x04 c → exec (.clearLinkStats c) s = .next
      { s with
        link := { s.link with
          stats := ⟨0, 0, 0, 0⟩
          inbound := s.link.inbound.tail
          waiting := some ⟨0x84, c.tag, 255, [0]⟩ } })) ∧
  ∀ (c : Command) (s : State) (l : LaneId), s.Takes 0x16 c → c.lane.toNat = l.val →
    c.payload = [] →
    (s.lanes[l].state = .running → exec (.queryLane c) s = .next
      (s.answered 0x16 c 0
        ([2, s.lanes[l].run.tracker.state.code, s.lanes[l].front.signal.code] ++
          beInt 4 s.lanes[l].run.tracker.e ++
          be 2 (s.lanes[l].run.ring.tail.length + s.lanes[l].run.ring.window.length) ++
          be 1 s.lanes[l].run.queue.records.length ++
          [s.lanes[l].slotA.code, s.lanes[l].slotB.code] ++ be 1 s.lanes[l].sprocket.cycles ++
          be 1 s.lanes[l].line.cycles ++ [s.lanes[l].runNumber]))) ∧
    (s.lanes[l].state ≠ .running → exec (.queryLane c) s = .next
      (s.answered 0x16 c 0
        ([s.lanes[l].state.code, 0, s.lanes[l].front.signal.code] ++
          beInt 4 (256 * s.lanes[l].params.get .nom) ++ [0, 0, 0] ++
          [s.lanes[l].slotA.code, s.lanes[l].slotB.code] ++ be 1 s.lanes[l].sprocket.cycles ++
          be 1 s.lanes[l].line.cycles ++ [s.lanes[l].runNumber])))

/-! ### Frames in and out -/

/-- R158 and R159, steps 2 and 3. The bytes that the transmitter sends for a frame pass the framer's second
test and are that frame's; above 1,280 payload bytes the receive framer discards them before, by its first
test (ReceivedFramesAreJudged). From either disparity, the codes of a start character, of any characters
but end, and of an end character are collected as those characters, whatever comes before the start
character and after the end character; without a start character nothing is. So a frame's own line is
collected as its bytes. The codes are those of assumption 34. -/
def Obligations.FrameWireRoundTrip : Prop :=
  (∀ f : Frame, f.payload.length ≤ 65535 → Frame.ofWire f.wire = some f) ∧
  (∀ (d : Disparity) (before after : List Code) (cs : List LinkChar),
    (∀ c ∈ before, c ≠ 0b1101101000 ∧ c ≠ 0b0010010111) → .stop ∉ cs →
    framed before = none ∧
      framed (before ++ lineCodes d ([.start] ++ cs ++ [.stop]) ++ after) = some (cs.map some)) ∧
  ∀ (d : Disparity) (f : Frame), framed (lineCodes d f.line) = some (f.wire.map fun b => some (.data b))

/-- R159 (idle characters do not count) and R160: a good frame enters the inbound queue at its back, and at
a full queue it is discarded, counted and raised at the device latch. R159, steps 1 and 2: a frame of more
than 1,287 bytes is discarded as oversize; a shorter one with a second start character or an invalid code,
of fewer than 7 bytes, or whose bytes are no frame's bytes (its length field or its check is wrong) is
discarded as a CRC error. Nothing else changes, and without a whole frame nothing does. What the arriving
codes carry is FrameWireRoundTrip's. That an invalid code and a second start character are not counted
among the 1,287 bytes is the model's reading (assumption 33). -/
def Obligations.ReceivedFramesAreJudged : Prop :=
  (∀ (s : State) (f : Frame) (codes : List Code) (cs : List (Option LinkChar)), s.resetHeld = false →
    f.payload.length ≤ 1280 → framed codes = some cs →
    cs.filter (fun ch => decide (ch ≠ some .idle)) = f.wire.map (fun b => some (.data b)) →
    (s.link.inbound.length < 8 → exec (.frameReceived codes) s = .next
      { s with link := { s.link with inbound := s.link.inbound ++ [f] } }) ∧
    (8 ≤ s.link.inbound.length → exec (.frameReceived codes) s = .next
      { s with
        link := { s.link with
          stats := { s.link.stats with overflows := min (s.link.stats.overflows + 1) 4294967295 }
          deviceLatch := s.link.deviceLatch || s.link.deviceMask } })) ∧
  (∀ (s : State) (codes : List Code), framed codes = none →
    exec (.frameReceived codes) s = .next s) ∧
  ∀ (s : State) (codes : List Code) (cs : List (Option LinkChar)), s.resetHeld = false →
    framed codes = some cs →
    (1287 < (dataBytes cs).length → exec (.frameReceived codes) s = .next
      { s with
        link := { s.link with
          stats := { s.link.stats with oversize := min (s.link.stats.oversize + 1) 4294967295 } } }) ∧
    ((dataBytes cs).length ≤ 1287 →
      (some .start ∈ cs ∨ none ∈ cs ∨ (dataBytes cs).length < 7 ∨
        ∀ f : Frame, f.payload.length ≤ 1280 → f.wire ≠ dataBytes cs) →
      exec (.frameReceived codes) s = .next
        { s with
          link := { s.link with
            stats := { s.link.stats with
              crcErrors := min (s.link.stats.crcErrors + 1) 4294967295 } } })

/-- R171: the waiting reply enters when its bytes fit in the free room, and waits otherwise. A stream block
enters when 4,096 bytes stay free after it and counts as sent, and is dropped and counted otherwise
(R142); a defect report likewise (R101). R170 and R158: the front frame leaves the queue when its last
character has been sent and frees its payload and seven bytes more; what has been sent is a start
character, its bytes and an end character. That a reply that does not fit changes nothing is assumption 3;
the line's last codes are the model's own observation (assumptions 18 and 34). -/
def Obligations.OutboundAdmissionAndSending : Prop :=
  (∀ (s : State) (f : Frame), s.resetHeld = false → s.link.waiting = some f →
    (usedBytes s.link.outbound + (f.payload.length + 7) ≤ 65536 →
      exec .replyEntry s = .next
        { s with link := { s.link with outbound := s.link.outbound ++ [f], waiting := none } }) ∧
    (65536 < usedBytes s.link.outbound + (f.payload.length + 7) →
      exec .replyEntry s = .next s)) ∧
  (∀ (w : Work) (d : Descriptor) (p : Nat) (vs : List Int),
    (usedBytes w.outbound + ((streamBlock w.id d p vs).payload.length + 7) + 4096 ≤ 65536 →
      offerBlock w d p vs =
        { w with
          outbound := w.outbound ++ [streamBlock w.id d p vs]
          lane := w.lane.count fun r =>
            { r with blocksSent := min (r.blocksSent + 1) 4294967295 } }) ∧
    (65536 < usedBytes w.outbound + ((streamBlock w.id d p vs).payload.length + 7) + 4096 →
      offerBlock w d p vs =
        { w with
          streamDrops := min (w.streamDrops + 1) 4294967295
          lane := (w.lane.count fun r =>
            { r with blocksDropped := min (r.blocksDropped + 1) 4294967295 }).raise .streamDrop })) ∧
  (∀ (w : Work) (g : BitVec 16) (r : DefectRecord),
    (usedBytes w.outbound + 25 + 4096 ≤ 65536 →
      offerReport w g r = { w with outbound := w.outbound ++ [defectReport w.id g r] }) ∧
    (65536 < usedBytes w.outbound + 25 + 4096 →
      offerReport w g r =
        { w with
          lane := (w.lane.count fun t =>
            { t with reportsDropped := min (t.reportsDropped + 1) 4294967295 }).raise .reportDrop })) ∧
  ∀ (s : State) (f : Frame) (rest : List Frame), s.resetHeld = false → s.link.outbound = f :: rest →
    (s.link.taking = true ∨ f.kind ≠ 0x82 ∨ f.payload ≠ [0]) →
    exec .frameSent s = .next
      { s with
        link := { s.link with
          outbound := rest
          txLine := lineCodes s.link.txDisparity f.line
          txDisparity := lineDisparity s.link.txDisparity f.line } } ∧
      f.line = [.start] ++
        ([f.kind, f.tag, f.lane] ++ be 2 f.payload.length ++ f.payload ++
          be 2 (crc16 ([f.kind, f.tag, f.lane] ++ be 2 f.payload.length ++ f.payload)).toNat).map .data ++
        [.stop] ∧
      usedBytes s.link.outbound = usedBytes rest + (f.payload.length + 7)

/-- R173 and R171: a latch that is not empty forms its notice when the notice fits, with the state as it
stands, and is emptied in the same event; a notice that does not fit or, by the model's choice
(assumption 3), one asked of an empty latch changes nothing. R172: SET_NOTICE_MASK replaces the lane's
mask, or at lane 255 the device's mask by bit 0 alone, and changes nothing else: the latches keep their
conditions. -/
def Obligations.NoticesAndMasks : Prop :=
  (∀ (s : State) (l : LaneId), s.resetHeld = false →
    (s.lanes[l].latch ≠ 0 → usedBytes s.link.outbound + 12 ≤ 65536 →
      exec (.noticeFormed (.lane l)) s = .next
        { s.withLane l { s.lanes[l] with latch := 0 } with
          link := { s.link with
            outbound := s.link.outbound ++
              [⟨0x42, 0, BitVec.ofNat 8 l.val,
                [s.lanes[l].latch,
                 if s.lanes[l].state = .running then s.lanes[l].run.tracker.state.code else 0,
                 s.lanes[l].front.signal.code, s.lanes[l].slotA.code, s.lanes[l].slotB.code]⟩] } }) ∧
    (s.lanes[l].latch = 0 ∨ 65536 < usedBytes s.link.outbound + 12 →
      exec (.noticeFormed (.lane l)) s = .next s)) ∧
  (∀ s : State, s.resetHeld = false →
    (s.link.deviceLatch = true → usedBytes s.link.outbound + 8 ≤ 65536 →
      exec (.noticeFormed .device) s = .next
        { s with
          link := { s.link with
            outbound := s.link.outbound ++ [⟨0x42, 0, 255, [1]⟩], deviceLatch := false } }) ∧
    (s.link.deviceLatch = false ∨ 65536 < usedBytes s.link.outbound + 8 →
      exec (.noticeFormed .device) s = .next s)) ∧
  ∀ (c : Command) (s : State) (b : Byte), s.Takes 0x17 c → c.payload = [b] →
    (∀ l : LaneId, c.lane.toNat = l.val → exec (.setNoticeMask c) s = .next
      ((s.withLane l { s.lanes[l] with mask := b }).answered 0x17 c 0 [])) ∧
    (c.lane = 255 → exec (.setNoticeMask c) s = .next
      { s with
        link := { s.link with
          deviceMask := decide (b.toNat % 2 = 1)
          inbound := s.link.inbound.tail
          waiting := some ⟨0x97, c.tag, 255, [0]⟩ } })

/-- R160 and R170: no step takes the inbound queue beyond 8 frames of at most 1,280 payload bytes or the
outbound queue beyond 65,536 bytes. -/
def Obligations.LinkQueuesStayBounded : Prop :=
  ∀ s t : State, s.link.Ok → step s = .next t → t.link.Ok

/-! ### Lane commands -/

/-- R2: ENABLE_LANE and DISABLE_LANE move a lane between DISABLED and STOPPED and change nothing else, and
are refused with WRONG_STATE in the other states. R3, R5 and R7: START_LANE and STOP_LANE in a wrong state,
and DEFAULT_LANE of a RUNNING lane, are refused with WRONG_STATE and change nothing. -/
def Obligations.LaneStatesAndRefusals : Prop :=
  (∀ (c : Command) (s : State) (l : LaneId), c.lane.toNat = l.val → c.payload = [] →
    (s.Takes 0x10 c →
      (s.lanes[l].state = .disabled → exec (.enableLane c) s = .next
        ((s.withLane l { s.lanes[l] with state := .stopped }).answered 0x10 c 0 [])) ∧
      (s.lanes[l].state ≠ .disabled →
        exec (.enableLane c) s = .next (s.answered 0x10 c 2 []))) ∧
    (s.Takes 0x11 c →
      (s.lanes[l].state = .stopped → exec (.disableLane c) s = .next
        ((s.withLane l { s.lanes[l] with state := .disabled }).answered 0x11 c 0 [])) ∧
      (s.lanes[l].state ≠ .stopped →
        exec (.disableLane c) s = .next (s.answered 0x11 c 2 [])))) ∧
  ∀ (c : Command) (s : State) (l : LaneId), c.lane.toNat = l.val → c.payload = [] →
    (s.Takes 0x12 c → s.lanes[l].state ≠ .stopped →
      exec (.startLane c) s = .next (s.answered 0x12 c 2 [])) ∧
    (s.Takes 0x13 c → s.lanes[l].state ≠ .running →
      exec (.stopLane c) s = .next (s.answered 0x13 c 2 [])) ∧
    (s.Takes 0x15 c → s.lanes[l].state = .running →
      exec (.defaultLane c) s = .next (s.answered 0x15 c 2 []))

/-- R3 and R4, with the start values of R25, R37, R66, R82, R98, R129 and R139: START_LANE of a STOPPED lane
sets all of the run's state, advances the run number and answers it; parameters, tables, slots and mask are
unchanged. That the latch is unchanged also when the kept signal state was SIGNAL_LOST is the model's
reading (assumption 14). -/
def Obligations.StartLaneEffects : Prop :=
  ∀ (c : Command) (s : State) (l : LaneId), s.Takes 0x12 c → c.lane.toNat = l.val →
    c.payload = [] → s.lanes[l].state = .stopped →
    exec (.startLane c) s = .next
      ((s.withLane l
        { s.lanes[l] with
          state := .running
          runNumber := s.lanes[l].runNumber + 1
          front :=
            { pendingA := none, heldEdges := [], nextIndex := 0, signal := .ok, darkRun := 0
              recoveryRun := 0, holdValue := 0 }
          run :=
            { generator := { phase := 0, impulseCount := 0, perfGap := 0, perfCount := 0 }
              tracker :=
                { state := .acquiring, e := 256 * s.lanes[l].params.get .nom, lastMark := none
                  acqRun := 0, outlierRun := 0 }
              resampler :=
                { step := 256 * (256 * s.lanes[l].params.get .nom) /
                    s.lanes[l].params.get .samplesPerPerf
                  rp := 0, prev := none, nextPos := 0, perfMarks := [], spliceMarks := [] }
              ring := { tail := [], window := [] }
              hum := { ts := 0, tl := 0, indexed := false }
              detector :=
                { history := [], envA := 0, meanM := 0, envAa := 0, settle := 64, lastEnd := none
                  nextId := 0, quietA := 0, quietB := 0 }
              queue := { records := [], fullNotice := false }
              hiss :=
                { lp := 0, level := 0, floor := s.lanes[l].params.get .floorValue, gain := 32768
                  runCount := 0, runMin := none }
              former := { nextPos := 0, first := 0, block := [] }
              dither :=
                if s.lanes[l].params.get .ditherSeed = 0 then 1
                else BitVec.ofInt 24 (s.lanes[l].params.get .ditherSeed) } }).answered
        0x12 c 0 [s.lanes[l].runNumber + 1])

/-- R5, R62, R98, R141, R151 and R156: STOP_LANE ends a RUNNING segment with LANE_STOPPED, offering its last
block, and discards ring, queue, pending A word and held edges; the signal state, the configuration and
the other slots stay, and no other lane changes. That the dark run, the recovery run, the hold value and the
next instant index stay as they were is the model's choice (assumption 5). -/
def Obligations.StopLaneEffects : Prop :=
  ∀ (c : Command) (s : State) (l : LaneId), s.Takes 0x13 c → c.lane.toNat = l.val →
    c.payload = [] → s.lanes[l].state = .running →
    ∃ t, exec (.stopLane c) s = .next t ∧ OnlyLane l (s.answered 0x13 c 0 []) t ∧
      t.lanes[l].state = .stopped ∧
      SameConfiguration { s.lanes[l] with state := .stopped } t.lanes[l] ∧
      t.lanes[l].sprocket = s.lanes[l].sprocket ∧ t.lanes[l].line = s.lanes[l].line ∧
      t.lanes[l].front = { s.lanes[l].front with pendingA := none, heldEdges := [] } ∧
      t.lanes[l].run.ring = ⟨[], []⟩ ∧ t.lanes[l].run.queue.records = [] ∧
      t.lanes[l].loadOrder = s.lanes[l].loadOrder ∧
      (s.lanes[l].slotA.isRunning = false → t.lanes[l].slotA = s.lanes[l].slotA) ∧
      (s.lanes[l].slotA.isRunning = true ∨ s.lanes[l].slotB.isRunning = false →
        t.lanes[l].slotB = s.lanes[l].slotB) ∧
      (s.lanes[l].runningSlot = none → t = (s.withLane l t.lanes[l]).answered 0x13 c 0 []) ∧
      ∀ (i : SlotId) (d : Descriptor) (r : Report) (q : Bool) (m : Nat),
        s.lanes[l].runningSlot = some i → s.lanes[l].slot i = .running d r q m →
        (t.lanes[l].latch &&& 0x08 = s.lanes[l].latch &&& 0x08 ||| s.lanes[l].mask &&& 0x08) ∧
        (s.lanes[l].run.former.block = [] →
          t.lanes[l].slot i = .finished d r .laneStopped ∧ t.link.outbound = s.link.outbound ∧
            t.link.stats.streamDrops = s.link.stats.streamDrops) ∧
        (s.lanes[l].run.former.block ≠ [] →
          (usedBytes s.link.outbound +
            ((streamBlock l d s.lanes[l].run.former.first s.lanes[l].run.former.block).payload.length
              + 7) + 4096 ≤ 65536 →
            t.lanes[l].slot i =
              .finished d { r with blocksSent := min (r.blocksSent + 1) 4294967295 } .laneStopped ∧
            t.link.outbound = s.link.outbound ++
              [streamBlock l d s.lanes[l].run.former.first s.lanes[l].run.former.block] ∧
            t.link.stats.streamDrops = s.link.stats.streamDrops) ∧
          (65536 < usedBytes s.link.outbound +
            ((streamBlock l d s.lanes[l].run.former.first s.lanes[l].run.former.block).payload.length
              + 7) + 4096 →
            t.lanes[l].slot i =
              .finished d { r with blocksDropped := min (r.blocksDropped + 1) 4294967295 }
                .laneStopped ∧
            t.link.outbound = s.link.outbound ∧
            t.link.stats.streamDrops = min (s.link.stats.streamDrops + 1) 4294967295))

/-- R6: RESET_LANE, in every lane state, leaves both slots EMPTY and the latch cleared, stops a RUNNING lane
and discards its ring and queue, and keeps the signal state, the configuration and the run number. R141, R142
and R156: the RUNNING segment's last block is offered as at STOP_LANE, sent or dropped and counted at the
device; without a RUNNING segment, or without a sample in the block, nothing is offered. -/
def Obligations.ResetLaneEffects : Prop :=
  ∀ (c : Command) (s : State) (l : LaneId), s.Takes 0x14 c → c.lane.toNat = l.val →
    c.payload = [] →
    ∃ t, exec (.resetLane c) s = .next t ∧ OnlyLane l (s.answered 0x14 c 0 []) t ∧
      SameConfiguration
        { s.lanes[l] with
          state := if s.lanes[l].state = .running then .stopped else s.lanes[l].state }
        t.lanes[l] ∧
      t.lanes[l].sprocket = s.lanes[l].sprocket ∧ t.lanes[l].line = s.lanes[l].line ∧
      t.lanes[l].slotA = .empty ∧ t.lanes[l].slotB = .empty ∧ t.lanes[l].loadOrder = [] ∧
      t.lanes[l].latch = 0 ∧ t.lanes[l].front.signal = s.lanes[l].front.signal ∧
      (s.lanes[l].state = .running →
        t.lanes[l].run.ring = ⟨[], []⟩ ∧ t.lanes[l].run.queue.records = [] ∧
        t.lanes[l].front.pendingA = none ∧ t.lanes[l].front.heldEdges = [] ∧
        (s.lanes[l].runningSlot = none →
          t.link.outbound = s.link.outbound ∧
            t.link.stats.streamDrops = s.link.stats.streamDrops) ∧
        ∀ (i : SlotId) (d : Descriptor) (r : Report) (q : Bool) (m : Nat) (f : Frame),
          s.lanes[l].runningSlot = some i → s.lanes[l].slot i = .running d r q m →
          f = streamBlock l d s.lanes[l].run.former.first s.lanes[l].run.former.block →
          (s.lanes[l].run.former.block = [] →
            t.link.outbound = s.link.outbound ∧
              t.link.stats.streamDrops = s.link.stats.streamDrops) ∧
          (s.lanes[l].run.former.block ≠ [] →
            (usedBytes s.link.outbound + (f.payload.length + 7) + 4096 ≤ 65536 →
              t.link.outbound = s.link.outbound ++ [f] ∧
                t.link.stats.streamDrops = s.link.stats.streamDrops) ∧
            (65536 < usedBytes s.link.outbound + (f.payload.length + 7) + 4096 →
              t.link.outbound = s.link.outbound ∧
                t.link.stats.streamDrops = min (s.link.stats.streamDrops + 1) 4294967295))) ∧
      (s.lanes[l].state ≠ .running →
        t.lanes[l].run = s.lanes[l].run ∧ t.lanes[l].front = s.lanes[l].front ∧
        t.link.outbound = s.link.outbound ∧
        t.link.stats.streamDrops = s.link.stats.streamDrops)

/-! ### Parameters and tables -/

/-- The parameter map, row by row: id, range, default and whether STOPPED-only. R164 (steps 3 and 4), R22,
R80, R133 and R135: SET_PARAM stores the applied value, the nearest limit of the range or for GEN_RATE the
largest listed rate not above it, makes the consequences (a new length zeroes its template, a written
HISS_OPEN or HISS_DEPTH recomputes the gain curve, a written FLOOR_VALUE becomes a RUNNING lane's floor),
answers id and applied value, and changes nothing else. -/
def Obligations.SetParamStoresApplied : Prop :=
  (∀ x ∈ ([
      (.railMode, ⟨1, 0, 1, 0, true⟩), (.source, ⟨2, 0, 1, 0, true⟩),
      (.muteOnLoss, ⟨3, 0, 1, 1, false⟩), (.genAmplitude, ⟨4, 0, 8388607, 1048576, true⟩),
      (.genPeriod, ⟨5, 4, 65535, 480, true⟩), (.genRate, ⟨6, 48000, 768000, 48000, true⟩),
      (.genImpulseSpacing, ⟨7, 0, 65535, 0, true⟩),
      (.genImpulseHeight, ⟨8, -8388608, 8388607, 0, true⟩),
      (.genSpliceSpacing, ⟨9, 0, 65535, 0, true⟩), (.nom, ⟨16, 200, 20000, 2000, true⟩),
      (.trackShift, ⟨17, 0, 6, 3, false⟩), (.lossFactor, ⟨18, 2, 15, 3, false⟩),
      (.samplesPerPerf, ⟨19, 100, 2000, 500, true⟩), (.lookahead, ⟨32, 256, 1536, 1024, true⟩),
      (.longPolicy, ⟨33, 0, 2, 1, false⟩), (.overrunPolicy, ⟨34, 0, 1, 0, false⟩),
      (.linePeriod, ⟨48, 100, 2000, 960, true⟩), (.sprocketDepth, ⟨49, 0, 256, 256, false⟩),
      (.lineDepth, ⟨50, 0, 256, 256, false⟩), (.sprocketLearnShift, ⟨51, 1, 8, 4, false⟩),
      (.lineLearnShift, ⟨52, 1, 8, 4, false⟩), (.swapCycles, ⟨53, 4, 256, 32, false⟩),
      (.sprocketMode, ⟨54, 0, 1, 0, false⟩), (.lineMode, ⟨55, 0, 1, 0, false⟩),
      (.impulseFloor, ⟨64, 0, 65535, 64, false⟩), (.impulseFactor, ⟨65, 4, 64, 24, false⟩),
      (.asymFloor, ⟨66, 0, 65535, 64, false⟩), (.asymFactor, ⟨67, 4, 64, 16, false⟩),
      (.clickOn, ⟨68, 0, 1, 1, false⟩), (.maxRepair, ⟨69, 8, 48, 32, true⟩),
      (.spliceSpan, ⟨70, 0, 48, 24, false⟩), (.halfRepair, ⟨80, 0, 1, 1, false⟩),
      (.hissOn, ⟨96, 0, 1, 1, false⟩), (.hissSplit, ⟨97, 2, 6, 3, false⟩),
      (.hissAttack, ⟨98, 1, 4, 2, false⟩), (.hissRelease, ⟨99, 4, 12, 8, false⟩),
      (.floorMode, ⟨100, 0, 2, 0, false⟩), (.floorRise, ⟨101, 4, 10, 6, false⟩),
      (.floorValue, ⟨102, 1, 134217727, 1600, false⟩), (.hissOpen, ⟨103, 1, 63, 24, false⟩),
      (.hissDepth, ⟨104, 0, 4, 2, false⟩), (.blockSize, ⟨112, 64, 1024, 256, true⟩),
      (.ditherSeed, ⟨113, 0, 16777215, 5921370, false⟩)] :
      List (Param × ParamRow)), x.1.row = x.2) ∧
  (∀ (ps : Params) (p q : Param) (v : Int),
    (ps.put p v).get q = if q = p then v else ps.get q) ∧
  ∀ (c : Command) (s : State) (l : LaneId) (p : Param) (v a : Int), s.Takes 0x20 c →
    c.lane.toNat = l.val → -2147483648 ≤ v → v ≤ 2147483647 →
    c.payload = be 2 p.row.id ++ beInt 4 v →
    ¬(p.row.stoppedOnly = true ∧ s.lanes[l].state = .running) →
    (p = .genRate →
      a = ((([48000, 96000, 192000, 384000, 768000] : List Int).filter (· ≤ v)).getLast?).getD 48000) →
    (p ≠ .genRate → a = if v < p.row.low then p.row.low else if p.row.high < v then p.row.high else v) →
    exec (.setParam c) s = .next
      ((s.withLane l
        { s.lanes[l] with
          params := s.lanes[l].params.put p a
          sprocket :=
            if p = .samplesPerPerf ∧ a ≠ s.lanes[l].params.get p then
              ⟨List.replicate a.toNat 0, List.replicate a.toNat 0, 0⟩ else s.lanes[l].sprocket
          line :=
            if p = .linePeriod ∧ a ≠ s.lanes[l].params.get p then
              ⟨List.replicate a.toNat 0, List.replicate a.toNat 0, 0⟩ else s.lanes[l].line
          gainTable :=
            if p = .hissOpen ∨ p = .hissDepth then
              (List.range 64).map (fun k : Nat =>
                if (if p = .hissOpen then a else s.lanes[l].params.get .hissOpen) ≤ k then (32768 : Int)
                else max
                  (32768 / 2 ^ (if p = .hissDepth then a else s.lanes[l].params.get .hissDepth).toNat)
                  (32768 * k / (if p = .hissOpen then a else s.lanes[l].params.get .hissOpen)))
            else s.lanes[l].gainTable
          run :=
            if p = .floorValue ∧ s.lanes[l].state = .running then
              { s.lanes[l].run with hiss := { s.lanes[l].run.hiss with floor := a } }
            else s.lanes[l].run }).answered
        0x20 c (if a = v then 0 else 1) (be 2 p.row.id ++ beInt 4 a))

/-- R164 (steps 1 and 2), R165 and R1: GET_PARAM answers the stored value; an unknown id is refused with
BAD_PARAM, and a STOPPED-only parameter of a RUNNING lane is not written; nothing changes. R7: DEFAULT_LANE of
a lane that is not RUNNING returns every parameter, both templates, the predictor and the gain table to their
defaults, and changes nothing else. -/
def Obligations.ParametersReadAndDefaulted : Prop :=
  (∀ (c : Command) (s : State) (l : LaneId), c.lane.toNat = l.val →
    (s.Takes 0x21 c → ∀ p : Param, c.payload = be 2 p.row.id →
      exec (.getParam c) s = .next
        (s.answered 0x21 c 0 (be 2 p.row.id ++ beInt 4 (s.lanes[l].params.get p)))) ∧
    (s.Takes 0x21 c → ∀ n : Nat, n < 65536 → (∀ p : Param, p.row.id ≠ n) → c.payload = be 2 n →
      exec (.getParam c) s = .next (s.answered 0x21 c 6 [])) ∧
    (s.Takes 0x20 c → ∀ (n : Nat) (v : Int), n < 65536 → (∀ p : Param, p.row.id ≠ n) →
      c.payload = be 2 n ++ beInt 4 v →
      exec (.setParam c) s = .next (s.answered 0x20 c 6 [])) ∧
    (s.Takes 0x20 c → ∀ (p : Param) (v : Int), p.row.stoppedOnly = true →
      s.lanes[l].state = .running → c.payload = be 2 p.row.id ++ beInt 4 v →
      exec (.setParam c) s = .next (s.answered 0x20 c 2 []))) ∧
  ∀ (c : Command) (s : State) (l : LaneId), s.Takes 0x15 c → c.lane.toNat = l.val →
    c.payload = [] → s.lanes[l].state ≠ .running →
    ∃ ps : Params, (∀ p : Param, ps.get p = p.row.default) ∧
      exec (.defaultLane c) s = .next
        ((s.withLane l
          { s.lanes[l] with
            params := ps
            sprocket := ⟨List.replicate 500 0, List.replicate 500 0, 0⟩
            line := ⟨List.replicate 960 0, List.replicate 960 0, 0⟩
            predictor := [8192, -4096, 0, 0, 0, 0, 0, 0]
            gainTable := (List.range 64).map (fun k : Nat =>
              if 24 ≤ k then (32768 : Int) else max 8192 (32768 * (k : Int) / 24)) }).answered
          0x15 c 0 [])

/-- R166, R167, R77, R102, R125 and R135: READ_TABLE answers the table id, first index, count and the entries
of the range, LEARNING accumulators as the values they stand for and Defect Queue items as their 27 bytes;
a count of 0 or above 256 or a range beyond the table is refused with BAD_RANGE, and an unknown table id
with BAD_TABLE before either; nothing changes. -/
def Obligations.ReadTableReturnsRange : Prop :=
  ∀ (c : Command) (s : State) (l : LaneId), s.Takes 0x22 c → c.lane.toNat = l.val →
    (∀ (b : Byte) (first count : Nat), 7 ≤ b.toNat → c.payload = [b] ++ be 2 first ++ be 2 count →
      exec (.readTable c) s = .next (s.answered 0x22 c 7 [])) ∧
    ∀ (i : Fin 7) (t : Table) (first count size : Nat),
      [Table.sprocketActive, .sprocketLearning, .lineActive, .lineLearning, .predictor, .gain,
        .defectQueue][i.val]? = some t →
      size =
        [(s.lanes[l].params.get .samplesPerPerf).toNat, (s.lanes[l].params.get .samplesPerPerf).toNat,
          (s.lanes[l].params.get .linePeriod).toNat, (s.lanes[l].params.get .linePeriod).toNat,
          8, 64, 32].getD i.val 0 →
      first < 65536 → count < 65536 →
      c.payload = [BitVec.ofNat 8 i.val] ++ be 2 first ++ be 2 count →
      (1 ≤ count → count ≤ 256 → first + count ≤ size →
        exec (.readTable c) s = .next
          (s.answered 0x22 c 0
            (c.payload ++ (List.range count).flatMap (fun k =>
              match t with
              | .sprocketLearning | .lineLearning =>
                beInt 4 (((t.values s.lanes[l]).getD (first + k) 0 + 128) / 256)
              | .defectQueue =>
                match
                  (if s.lanes[l].state = .running then s.lanes[l].run.queue.records[first + k]?
                   else none) with
                | none => List.replicate 27 0
                | some r =>
                  be 2 r.id.toNat ++ be 4 r.start.toNat ++ be 4 r.stop.toNat ++
                    [causesByte r.causes, r.state.code, if r.overLength = true then 1 else 0] ++
                    be 4 r.peak ++ be 4 r.sumA ++ be 4 r.sumB ++ repairBytes r.kind r.cleanHalf
              | _ => beInt 4 ((t.values s.lanes[l]).getD (first + k) 0))))) ∧
      (count = 0 ∨ 256 < count ∨ size < first + count →
        exec (.readTable c) s = .next (s.answered 0x22 c 8 []))

/-- R166, R168, R78, R79, R125 and R135: WRITE_TABLE of an unknown table or of DEFECT_QUEUE is refused with
BAD_TABLE, then one whose range R166 does not allow with BAD_RANGE, then one whose payload is not 5 bytes
and 4 for each entry with BAD_LENGTH, then one of an ACTIVE bank of a RUNNING lane with WRONG_STATE, and
nothing changes. An accepted one stores every value of the range clamped (a LEARNING bank 256 times it)
and clears a LEARNING bank's cycle count; every other entry, table and piece of state is as before. -/
def Obligations.WriteTableStoresRange : Prop :=
  ∀ (c : Command) (s : State) (l : LaneId), s.Takes 0x23 c → c.lane.toNat = l.val →
    (∀ (b : Byte) (rest : List Byte), 6 ≤ b.toNat → 4 ≤ rest.length → c.payload = b :: rest →
      exec (.writeTable c) s = .next (s.answered 0x23 c 7 [])) ∧
    ∀ (i : Fin 6) (t : Table) (first count size : Nat) (rest : List Byte),
      [Table.sprocketActive, .sprocketLearning, .lineActive, .lineLearning, .predictor, .gain][i.val]? =
        some t →
      size =
        [(s.lanes[l].params.get .samplesPerPerf).toNat, (s.lanes[l].params.get .samplesPerPerf).toNat,
          (s.lanes[l].params.get .linePeriod).toNat, (s.lanes[l].params.get .linePeriod).toNat,
          8, 64].getD i.val 0 →
      first < 65536 → count < 65536 →
      c.payload = [BitVec.ofNat 8 i.val] ++ be 2 first ++ be 2 count ++ rest →
      (count = 0 ∨ 256 < count ∨ size < first + count →
        exec (.writeTable c) s = .next (s.answered 0x23 c 8 [])) ∧
      (1 ≤ count → count ≤ 256 → first + count ≤ size →
        (rest.length ≠ 4 * count → exec (.writeTable c) s = .next (s.answered 0x23 c 9 [])) ∧
        ∀ vs : List Int, vs.length = count → (∀ v ∈ vs, -2147483648 ≤ v ∧ v ≤ 2147483647) →
          rest = vs.flatMap (beInt 4) →
          (i.val = 0 ∨ i.val = 2 → s.lanes[l].state = .running →
            exec (.writeTable c) s = .next (s.answered 0x23 c 2 [])) ∧
          ((i.val = 0 ∨ i.val = 2 → s.lanes[l].state ≠ .running) →
            (t.values s.lanes[l]).length = size →
            ∃ x : Lane,
              exec (.writeTable c) s = .next
                ((s.withLane l x).answered 0x23 c
                  (if ∀ v ∈ vs, t.range.1 ≤ v ∧ v ≤ t.range.2 then 0 else 1) []) ∧
              x = { s.lanes[l] with
                    sprocket := x.sprocket, line := x.line, predictor := x.predictor
                    gainTable := x.gainTable } ∧
              (∀ u : Table, u ≠ t → u.values x = u.values s.lanes[l]) ∧
              (x.sprocket.cycles, x.line.cycles) = t.clearedCount s.lanes[l] ∧
              (t.values x).length = (t.values s.lanes[l]).length ∧
              ∀ k : Nat, (t.values x)[k]? =
                if first ≤ k ∧ k < first + count then
                  (vs[k - first]?).map (fun v => t.stored (max t.range.1 (min t.range.2 v)))
                else (t.values s.lanes[l])[k]?))

/-! ### Segments -/

/-- R144, R145 and the descriptor layout: LOAD_SEGMENT puts the descriptor into the EMPTY slot, A first, as
the last of the load order, and answers the slot and the applied descriptor. A code outside its list is
replaced by the nearest listed one and answered CLAMPED (R145; for the two flags the model's reading,
assumption 13). A DISABLED lane answers WRONG_STATE and a lane without an EMPTY slot NO_SLOT, and nothing
changes. -/
def Obligations.LoadSegmentStoresDescriptor : Prop :=
  ∀ (c : Command) (s : State) (l : LaneId) (id len : Nat) (start output word dither reports : Byte)
    (d : Descriptor) (applied : List Byte) (status : Byte),
    s.Takes 0x30 c → c.lane.toNat = l.val → id < 65536 → len < 16777216 →
    c.payload = be 2 id ++ [start] ++ be 3 len ++ [output, word, dither, reports] →
    d = { segId := BitVec.ofNat 16 id
          start := if start = 0 then .immediate else if start = 1 then .atPerf else .atSplice
          length := len
          output := if output = 0 then .restored else if output = 1 then .original else .difference
          word := if word = 0 then .bits16 else .bits24
          dither := decide (dither ≠ 0)
          reports := decide (reports ≠ 0) } →
    applied = be 2 id ++ [if start.toNat ≤ 2 then start else 2] ++ be 3 len ++
      [if output.toNat ≤ 2 then output else 2, if word.toNat ≤ 1 then word else 1,
        if dither.toNat ≤ 1 then dither else 1, if reports.toNat ≤ 1 then reports else 1] →
    status = (if start.toNat ≤ 2 ∧ output.toNat ≤ 2 ∧ word.toNat ≤ 1 ∧ dither.toNat ≤ 1 ∧
      reports.toNat ≤ 1 then 0 else 1) →
    (s.lanes[l].state ≠ .disabled → s.lanes[l].slotA = .empty →
      exec (.loadSegment c) s = .next
        ((s.withLane l
          { s.lanes[l] with slotA := .loaded d, loadOrder := s.lanes[l].loadOrder ++ [.a] }).answered
          0x30 c status (0 :: applied))) ∧
    (s.lanes[l].state ≠ .disabled → s.lanes[l].slotA ≠ .empty → s.lanes[l].slotB = .empty →
      exec (.loadSegment c) s = .next
        ((s.withLane l
          { s.lanes[l] with slotB := .loaded d, loadOrder := s.lanes[l].loadOrder ++ [.b] }).answered
          0x30 c status (1 :: applied))) ∧
    (s.lanes[l].state ≠ .disabled → s.lanes[l].slotA ≠ .empty → s.lanes[l].slotB ≠ .empty →
      exec (.loadSegment c) s = .next (s.answered 0x30 c 3 [])) ∧
    (s.lanes[l].state = .disabled → exec (.loadSegment c) s = .next (s.answered 0x30 c 2 []))

/-- R150 and R152: END_SEGMENT sets the end request of a RUNNING slot or cancels a LOADED one, COLLECT_REPORT
delivers a FINISHED slot's report and empties the slot, each answers NOT_READY in the other slot states
and BAD_RANGE for another slot code, and nothing else changes. -/
def Obligations.EndAndCollectSegments : Prop :=
  ∀ (c : Command) (s : State) (l : LaneId), c.lane.toNat = l.val →
    (∀ i : SlotId, c.payload = [i.code] →
      (s.Takes 0x31 c →
        (∀ d r q m, s.lanes[l].slot i = .running d r q m → exec (.endSegment c) s = .next
          ((s.withLane l (s.lanes[l].setSlot i (.running d r true m))).answered 0x31 c 0 [])) ∧
        (∀ d, s.lanes[l].slot i = .loaded d → exec (.endSegment c) s = .next
          ((s.withLane l
            { s.lanes[l].setSlot i .empty with
              loadOrder := s.lanes[l].loadOrder.filter (fun j => decide (j ≠ i)) }).answered
            0x31 c 0 [])) ∧
        (s.lanes[l].slot i = .empty ∨ (∃ d r e, s.lanes[l].slot i = .finished d r e) →
          exec (.endSegment c) s = .next (s.answered 0x31 c 4 []))) ∧
      (s.Takes 0x32 c →
        (∀ d r e, s.lanes[l].slot i = .finished d r e → exec (.collectReport c) s = .next
          ((s.withLane l (s.lanes[l].setSlot i .empty)).answered 0x32 c 0
            ([i.code] ++ be 2 d.segId.toNat ++ [e.code] ++ be 4 r.firstPos.toNat ++
              [r.samples, r.blocksSent, r.blocksDropped, r.repairedInterpolate, r.repairedHalf,
                r.long, r.abandoned, r.impulse, r.asymmetry, r.sensor, r.splice, r.recordsDropped,
                r.reportsDropped, r.perfMarks, r.spurious, r.outliers, r.holdovers,
                r.holdoverInstants, r.pairingErrors, r.lostOutput, r.maxFill].flatMap (be 4)))) ∧
        ((∀ d r e, s.lanes[l].slot i ≠ .finished d r e) →
          exec (.collectReport c) s = .next (s.answered 0x32 c 4 [])))) ∧
    (∀ b : Byte, 1 < b.toNat → c.payload = [b] →
      (s.Takes 0x31 c → exec (.endSegment c) s = .next (s.answered 0x31 c 8 [])) ∧
      (s.Takes 0x32 c → exec (.collectReport c) s = .next (s.answered 0x32 c 8 [])))

/-! ### Words, edges and instants -/

/-- How the wire spells what it carries. The sensor word (09, Sensor word), with R11 on the fourth quality
code: lane, half, quality, two ignored bits, value. R175: a field has its most significant byte first, and
a signed one is in two's complement. The state codes (09, State codes). R159: the check is preset to all
ones, takes each bit of a byte, the most significant first, by x^16 + x^12 + x^5 + 1, and is 0x29B1 over
the digits 1 to 9. R158, with the standard tables of 8b/10b (assumption 34): the codes of idle (K28.5), start
(K27.7) and end (K29.7) in both columns, of which idle's alone begin with a comma; a code has five ones, or six
from a negative and four from a positive disparity, which it turns; and no code, in either column, is two
characters'. -/
def Obligations.WireFieldsAndCheck : Prop :=
  (∀ (lane : BitVec 3) (half : BitVec 1) (quality unused : BitVec 2) (value : BitVec 24),
    sensorFields (lane ++ half ++ quality ++ unused ++ value) =
      ⟨⟨lane.toNat, lane.isLt⟩, if half = 1 then .b else .a,
        if quality = 0 then .ok else if quality = 1 then .clipped else .dark, value.toInt⟩) ∧
  (∀ n v k : Nat, (be n v).length = n ∧
    (be n v)[k]? = if k < n then some (BitVec.ofNat 8 (v / 256 ^ (n - 1 - k))) else none) ∧
  (∀ (n : Nat) (v : Int), (beInt n v).length = n ∧
    (0 ≤ v → beInt n v = be n v.toNat) ∧
    (v < 0 → -(256 ^ n : Int) ≤ v → beInt n v = be n (256 ^ n + v).toNat)) ∧
  ([LaneState.disabled, .stopped, .running].map LaneState.code = [0, 1, 2] ∧
    [TrackerState.acquiring, .locked, .holdover].map TrackerState.code = [0, 1, 2] ∧
    [SignalState.ok, .lost].map SignalState.code = [0, 1] ∧
    [RecordState.opened, .queued, .loaded, .inRepair, .repaired, .long, .abandoned].map
      RecordState.code = [1, 2, 3, 4, 5, 6, 7] ∧
    [EndReason.length, .endCommand, .laneStopped].map EndReason.code = [0, 1, 2] ∧
    [SlotId.a, .b].map SlotId.code = [0, 1] ∧ Slot.empty.code = 0 ∧
    ∀ d r q m e, (Slot.loaded d).code = 1 ∧ (Slot.running d r q m).code = 2 ∧
      (Slot.finished d r e).code = 3) ∧
  crc16 [] = 0xFFFF ∧ crc16 [0x31, 0x32, 0x33, 0x34, 0x35, 0x36, 0x37, 0x38, 0x39] = 0x29B1 ∧
  (∀ (bs : List Byte) (b : Byte), crc16 (bs ++ [b]) =
    [7, 6, 5, 4, 3, 2, 1, 0].foldl
      (fun (r : BitVec 16) i =>
        if r.getLsbD 15 = b.getLsbD i then r <<< 1 else (r <<< 1) ^^^ 0x1021) (crc16 bs)) ∧
  ([LinkChar.idle, .start, .stop].map (LinkChar.code .minus) =
      [0b0011111010, 0b1101101000, 0b1011101000] ∧
    [LinkChar.idle, .start, .stop].map (LinkChar.code .plus) =
      [0b1100000101, 0b0010010111, 0b0100010111]) ∧
  (∀ (d : Disparity) (ch : LinkChar),
    (ch = .idle ↔ (ch.code d).extractLsb' 3 7 = 0b0011111#7 ∨ (ch.code d).extractLsb' 3 7 = 0b1100000#7) ∧
    (weight (ch.code d) = 5 ∧ d.after (ch.code d) = d ∨
      d = .minus ∧ weight (ch.code d) = 6 ∧ d.after (ch.code d) = .plus ∨
      d = .plus ∧ weight (ch.code d) = 4 ∧ d.after (ch.code d) = .minus)) ∧
  ∀ (d e : Disparity) (ch ch' : LinkChar), ch.code d = ch'.code e → ch = ch'

/-- R11, R13, R14 and R20: words and edges of a lane that does not take them change nothing; an edge is held;
on a dual-rail lane an A word becomes the pending one, an A word on a pending one replaces it, and a B
word alone is dropped, the last two counted as pairing errors of the running segment. -/
def Obligations.WordsAndEdgesHeldOrDiscarded : Prop :=
  (∀ (s : State) (l : LaneId), s.resetHeld = false →
    (s.lanes[l].state ≠ .running ∨ s.lanes[l].params.get .source ≠ 0) →
    (∀ w, (sensorFields w).lane = l → exec (.sensorWord w) s = .next s) ∧
      exec (.perfEdge l) s = .next s ∧ exec (.spliceEdge l) s = .next s) ∧
  (∀ (s : State) (l : LaneId), s.ListensTo l →
    exec (.perfEdge l) s = .next
      (s.withLane l
        { s.lanes[l] with
          front := { s.lanes[l].front with heldEdges := s.lanes[l].front.heldEdges ++ [.perf] } }) ∧
    exec (.spliceEdge l) s = .next
      (s.withLane l
        { s.lanes[l] with
          front := { s.lanes[l].front with
            heldEdges := s.lanes[l].front.heldEdges ++ [.splice] } })) ∧
  ∀ (s : State) (l : LaneId) (w : BitVec 32) (q : Quality) (v : Int), s.ListensTo l →
    s.lanes[l].params.get .railMode = 1 →
    (sensorFields w = ⟨l, .a, q, v⟩ → s.lanes[l].front.pendingA = none →
      exec (.sensorWord w) s = .next
        (s.withLane l
          { s.lanes[l] with front := { s.lanes[l].front with pendingA := some ⟨v, q⟩ } })) ∧
    (sensorFields w = ⟨l, .a, q, v⟩ → s.lanes[l].front.pendingA ≠ none →
      exec (.sensorWord w) s = .next
        (s.withLane l
          (Lane.count
            { s.lanes[l] with front := { s.lanes[l].front with pendingA := some ⟨v, q⟩ } }
            fun r => { r with pairingErrors := min (r.pairingErrors + 1) 4294967295 }))) ∧
    (sensorFields w = ⟨l, .b, q, v⟩ → s.lanes[l].front.pendingA = none →
      exec (.sensorWord w) s = .next
        (s.withLane l
          (s.lanes[l].count fun r =>
            { r with pairingErrors := min (r.pairingErrors + 1) 4294967295 })))

/-- R12, R13, R15, R16, R19, R20 and R39: a word on a single-rail lane, and a B word on a pending A word of
a dual-rail lane, complete one instant. R20: the instant takes all the held edges with it, PERF and SPLICE, in
the order they were attached, and none stays held. What it does with them is InstantHandsOnItsOutputs. -/
def Obligations.WordCompletesInstant : Prop :=
  ∀ (s : State) (l : LaneId) (w : BitVec 32) (h : Half) (q : Quality) (v : Int), s.ListensTo l →
    sensorFields w = ⟨l, h, q, v⟩ →
    (s.lanes[l].params.get .railMode = 0 →
      ∃ t, exec (.sensorWord w) s = .next t ∧
        Completed l s t v none q s.lanes[l].front.pendingA [] ∧
        t = s.putWork (completeInstant v none q s.lanes[l].front.heldEdges
          { s.work l with
            lane := { s.lanes[l] with front := { s.lanes[l].front with heldEdges := [] } } })) ∧
    ∀ (a : PendingWord) (q' : Quality), s.lanes[l].params.get .railMode = 1 → h = .b →
      s.lanes[l].front.pendingA = some a →
      q' = (if a.quality = .dark ∨ q = .dark then .dark
        else if a.quality = .clipped ∨ q = .clipped then .clipped else .ok) →
      ∃ t, exec (.sensorWord w) s = .next t ∧
        Completed l s t ((a.value + v) / 2) (some ⟨a.value, v⟩) q' none [] ∧
        t = s.putWork (completeInstant ((a.value + v) / 2) (some ⟨a.value, v⟩) q'
          s.lanes[l].front.heldEdges
          { s.work l with
            lane := { s.lanes[l] with
              front := { s.lanes[l].front with pendingA := none, heldEdges := [] } } })

/-- R22 to R24: a generated instant completes with quality OK and the triangle value of R23, an impulse
adding to half A alone, with a PERF edge at every NOM-th instant and a SPLICE edge at every S-th
perforation after the first handed to tracker and resampler, and the phase and counts advance; the triangle
stays within the amplitude. That the impulses and the perforations are told by counts and not by the index
is the model's reading (assumption 8). -/
def Obligations.GeneratorCompletesInstant : Prop :=
  (∀ T A φ : Int, 4 ≤ T → 0 ≤ A → 0 ≤ φ → φ < T →
    triangle T A φ =
        (if φ < T / 2 then -A + 2 * A * φ / (T / 2)
         else A - 2 * A * (φ - T / 2) / (T - T / 2)) ∧
      -A ≤ triangle T A φ ∧ triangle T A φ ≤ A) ∧
  ∀ (s : State) (l : LaneId) (g g' : Generator) (v a x : Int) (impulse : Bool)
    (halves : Option Halves) (edges : List EdgeKind),
    s.resetHeld = false → s.lanes[l].state = .running → s.lanes[l].params.get .source = 1 →
    g = s.lanes[l].run.generator →
    v = triangle (s.lanes[l].params.get .genPeriod) (s.lanes[l].params.get .genAmplitude) g.phase →
    impulse = decide (1 ≤ s.lanes[l].params.get .genImpulseSpacing ∧
      s.lanes[l].params.get .genImpulseSpacing ≤ (g.impulseCount : Int) + 1) →
    a = (if impulse = true then
      max (-8388608) (min 8388607 (v + s.lanes[l].params.get .genImpulseHeight)) else v) →
    (x, halves) =
      (if s.lanes[l].params.get .railMode = 1 then ((a + v) / 2, some ⟨a, v⟩) else (a, none)) →
    edges =
      (if g.perfGap ≠ 0 then []
       else if 1 ≤ s.lanes[l].params.get .genSpliceSpacing ∧ 1 ≤ g.perfCount ∧
          (g.perfCount : Int) % s.lanes[l].params.get .genSpliceSpacing = 0 then [.perf, .splice]
       else [.perf]) →
    g' =
      { phase :=
          if (g.phase : Int) + 1 < s.lanes[l].params.get .genPeriod then g.phase + 1 else 0
        impulseCount := if impulse = true then 0 else g.impulseCount + 1
        perfGap := if (g.perfGap : Int) + 1 < s.lanes[l].params.get .nom then g.perfGap + 1 else 0
        perfCount := if g.perfGap = 0 then g.perfCount + 1 else g.perfCount } →
    s.completes l (.generator l) = some (.ok, edges) ∧
    ∃ t, exec (.generatorInstant l) s = .next t ∧
      Completed l s t x halves .ok s.lanes[l].front.pendingA s.lanes[l].front.heldEdges ∧
      t = s.putWork (completeInstant x halves .ok edges
        { s.work l with lane := { s.lanes[l] with run := { s.lanes[l].run with generator := g' } } }) ∧
      t.lanes[l].run.generator = g'

/-- R11, R20 and R154: what a lane's words, edges, generated instants and notices change stands in that
lane, the outbound queue and the count of stream drops; and the lane keeps all its configuration but the
templates, which departures teach and swap. -/
def Obligations.InputsStayInTheirLane : Prop :=
  ∀ (s t : State) (l : LaneId) (i : Instr),
    i = .perfEdge l ∨ i = .spliceEdge l ∨ i = .generatorInstant l ∨ i = .noticeFormed (.lane l) ∨
      (∃ w, i = .sensorWord w ∧ (sensorFields w).lane = l) →
    exec i s = .next t → OnlyLane l s t ∧ SameConfiguration s.lanes[l] t.lanes[l]

/-- The model's choice (assumption 4): a row that names an event is the whole step of its cause when the
event comes about inside that step, and changes nothing when it does not. -/
def Obligations.NamedEventsAreTheirCauses : Prop :=
  ∀ (e : StepEvent) (c : Cause) (s : State), s.resetHeld = false →
    (e ∈ causeEvents s c →
      ∃ t, exec (e.row c) s = .next t ∧ exec (causeRow c) s = .next t ∧ t = causeStep s c) ∧
    (e ∉ causeEvents s c → exec (e.row c) s = .next s)

/-- R16 and R88: the 64th consecutive DARK instant is a SIGNAL_LOST, the 64th other one a SIGNAL_RECOVERED:
the state changes, both runs are 0, SIGNAL_STATE is latched when the mask holds it, and no record is
OPEN after a loss. R88: a loss closes the open record as LONG, with or without the over-length mark, sets the
last end to its end and the quiet sums to 0, and the departure test follows; with no open record it does
nothing more, and it keeps the rest of the detector. A recovery empties the detector's history and sets the settle count to 64, and keeps the
rest of the detector (R88), before any output of the instant; so it stands after an instant without an output.
It holds of words on single-rail and dual-rail lanes and of generated instants. That
the two rows carry their cause and are its whole step is the model's choice (assumption 4). -/
def Obligations.SignalChangesAtSixtyFour : Prop :=
  ∀ (s : State) (l : LaneId) (c : Cause) (q : Quality) (edges : List EdgeKind),
    s.completes l c = some (q, edges) →
    (s.lanes[l].front.signal = .ok → s.lanes[l].front.darkRun = 63 → q = .dark →
      ∃ t, exec (.signalLost c) s = .next t ∧ exec (causeRow c) s = .next t ∧
        t.lanes[l].front.signal = .lost ∧ t.lanes[l].front.darkRun = 0 ∧
        t.lanes[l].front.recoveryRun = 0 ∧
        (s.lanes[l].mask &&& 0x02 ≠ 0 → t.lanes[l].latch &&& 0x02 ≠ 0) ∧
        ((s.lanes[l].run.queue.records.filter fun r => decide (r.state = .opened)).length ≤ 1 →
          ∀ r ∈ t.lanes[l].run.queue.records, r.state ≠ .opened) ∧
        ∀ (f : FrontEnd) (x : Lane),
          f = { s.lanes[l].front with nextIndex := s.lanes[l].front.nextIndex + 1 } →
          x = { s.lanes[l] with
            latch := s.lanes[l].latch ||| (0x02 &&& s.lanes[l].mask)
            front := { f with signal := .lost, darkRun := 0, recoveryRun := 0 } } →
          ((∀ r ∈ s.lanes[l].run.queue.records, r.state ≠ .opened) →
            watchSignal q ((s.work l).setFront f) =
              { s.work l with lane := x, trace := [.signalLost] }) ∧
          ∀ (pre post : List DefectRecord) (r : DefectRecord),
            s.lanes[l].run.queue.records = pre ++ r :: post → r.state = .opened →
            (∀ o ∈ pre ++ post, o.state ≠ .opened ∧ o.id ≠ r.id) →
            watchSignal q ((s.work l).setFront f) =
              departureTest
                { s.work l with
                  lane := { x with
                    run := { x.run with
                      queue := { x.run.queue with records := pre ++ { r with state := .long } :: post }
                      detector := { x.run.detector with
                        lastEnd := some r.stop, quietA := 0, quietB := 0 } } }
                  trace := [.signalLost] }) ∧
    (s.lanes[l].front.signal = .lost → s.lanes[l].front.recoveryRun = 63 → q ≠ .dark →
      ∃ t, exec (.signalRecovered c) s = .next t ∧ exec (causeRow c) s = .next t ∧
        t.lanes[l].front.signal = .ok ∧ t.lanes[l].front.darkRun = 0 ∧
        t.lanes[l].front.recoveryRun = 0 ∧
        (s.lanes[l].mask &&& 0x02 ≠ 0 → t.lanes[l].latch &&& 0x02 ≠ 0) ∧
        (∀ (f : FrontEnd), f = { s.lanes[l].front with nextIndex := s.lanes[l].front.nextIndex + 1 } →
          (watchSignal q ((s.work l).setFront f)).lane =
            { s.lanes[l] with
              latch := s.lanes[l].latch ||| (0x02 &&& s.lanes[l].mask)
              front := { f with signal := .ok, darkRun := 0, recoveryRun := 0 }
              run := { s.lanes[l].run with
                detector := { s.lanes[l].run.detector with history := [], settle := 64 } } }) ∧
        ((∀ p ∈ s.lanes[l].run.resampler.prev, rpIndex s.lanes[l].run.resampler.rp ≠ p.index) →
          t.lanes[l].run.detector =
            { s.lanes[l].run.detector with history := [], settle := 64 }))

/-! ### The tracker and the resampler -/

/-- R26 to R34 and R38. What one PERF edge does: a first mark, also the one that ends HOLDOVER, changes
neither E nor the acquisition run; in ACQUIRING the interval is compared and becomes E, and the fourth
match locks (a run of 4 stays 4, assumption 7); in LOCKED a normal edge moves E, a spurious one is ignored, and
the fourth outlier ends the lock. What the timeout test does. An instant takes its edges one by one and
then the test, and Δ follows a changed E. At most one edge on an instant, TRACK_STATE is latched exactly at
a change of state. The rows TRACK_LOCK, OUTLIER_LOSS_OF_LOCK and TRACK_TIMEOUT carry their cause and are
its whole step: the model's choice (assumption 4). R35: a taken mark, a spurious edge, an outlier, an entry
into HOLDOVER and an instant that ends in HOLDOVER are counted in the RUNNING segment at the edge or the test,
and nowhere without one. R44: a taken mark becomes a pending PERF mark, once for an index. -/
def Obligations.TrackerTakesInstant : Prop :=
  (∀ (T : Tracker) (nom : Int) (shift : Nat) (k m : Pos) (N : Int), N = 256 * ((k - m).toNat : Int) →
    (T.state = .holdover →
      (T.onEdge nom shift k).1 = { T with state := .acquiring, lastMark := some k }) ∧
    (T.state ≠ .holdover → T.lastMark = none →
      (T.onEdge nom shift k).1 = { T with lastMark := some k }) ∧
    (T.state = .acquiring → T.lastMark = some m →
      (|N - T.e| ≤ T.e / 8 →
        (T.onEdge nom shift k).1 =
          { T with
            e := max (128 * nom) (min (512 * nom) N), lastMark := some k
            acqRun := min (T.acqRun + 1) 4
            state := if 3 ≤ T.acqRun then .locked else .acquiring
            outlierRun := if 3 ≤ T.acqRun then 0 else T.outlierRun }) ∧
      (T.e / 8 < |N - T.e| →
        (T.onEdge nom shift k).1 =
          { T with
            e := max (128 * nom) (min (512 * nom) N), lastMark := some k, acqRun := 0 })) ∧
    (T.state = .locked → T.lastMark = some m →
      (N < T.e / 2 → T.onEdge nom shift k = (T, .spurious)) ∧
      (T.e / 2 ≤ N → 3 * T.e / 4 ≤ N → N ≤ 5 * T.e / 4 →
        (T.onEdge nom shift k).1 =
          { T with
            e := max (128 * nom) (min (512 * nom) (T.e + (N - T.e) / 2 ^ shift))
            lastMark := some k, outlierRun := 0 }) ∧
      (T.e / 2 ≤ N → (N < 3 * T.e / 4 ∨ 5 * T.e / 4 < N) →
        (T.onEdge nom shift k).1 =
          if 3 ≤ T.outlierRun then
            { T with
              state := .acquiring, lastMark := some k, acqRun := 0, outlierRun := T.outlierRun + 1 }
          else { T with lastMark := some k, outlierRun := T.outlierRun + 1 }))) ∧
  (∀ (T : Tracker) (loss a : Int) (k : Pos),
    a = (match T.lastMark with
      | some m => ((k - m).toNat : Int)
      | none => (k.toNat : Int) + 1) →
    (T.state = .holdover ∨ 256 * a ≤ loss * T.e → T.timeout loss k = T) ∧
    (T.state = .acquiring → loss * T.e < 256 * a →
      T.timeout loss k = { T with state := .holdover, acqRun := 0 }) ∧
    (T.state = .locked → loss * T.e < 256 * a →
      T.timeout loss k = { T with state := .holdover, outlierRun := 0 })) ∧
  (∀ (w : Work) (k : Pos) (T : Tracker) (spurious outlier : Bool),
    T = w.lane.run.tracker →
    (spurious = true ↔ T.state = .locked ∧ ∃ m ∈ T.lastMark, 256 * ((k - m).toNat : Int) < T.e / 2) →
    (outlier = true ↔ T.state = .locked ∧ ∃ m ∈ T.lastMark, T.e / 2 ≤ 256 * ((k - m).toNat : Int) ∧
      (256 * ((k - m).toNat : Int) < 3 * T.e / 4 ∨ 5 * T.e / 4 < 256 * ((k - m).toNat : Int))) →
    (∃ x : Lane, w.lane.Counts x (fun r =>
        { r with
          perfMarks := if spurious = true then r.perfMarks else min (r.perfMarks + 1) 4294967295
          spurious := if spurious = true then min (r.spurious + 1) 4294967295 else r.spurious
          outliers := if outlier = true then min (r.outliers + 1) 4294967295 else r.outliers }) ∧
      (trackEdge k w).lane.slotA = x.slotA ∧ (trackEdge k w).lane.slotB = x.slotB) ∧
    (trackEdge k w).lane.run.resampler.perfMarks =
      (if spurious = true ∨ k ∈ w.lane.run.resampler.perfMarks then w.lane.run.resampler.perfMarks
       else w.lane.run.resampler.perfMarks ++ [k]) ∧
    (∃ x : Lane, w.lane.Counts x (fun r =>
        { r with
          holdovers :=
            if T.state ≠ .holdover ∧ (T.timeout (w.p .lossFactor) k).state = .holdover then
              min (r.holdovers + 1) 4294967295 else r.holdovers
          holdoverInstants :=
            if (T.timeout (w.p .lossFactor) k).state = .holdover then
              min (r.holdoverInstants + 1) 4294967295 else r.holdoverInstants }) ∧
      (trackTimeout k w).lane.slotA = x.slotA ∧ (trackTimeout k w).lane.slotB = x.slotB) ∧
    ∀ n : Nat, trackInstant k n w = trackTimeout k ((trackEdge k)^[n] w)) ∧
  ∀ (s : State) (l : LaneId) (c : Cause) (q : Quality) (edges : List EdgeKind) (T : Tracker) (k : Pos),
    s.completes l c = some (q, edges) → T = s.lanes[l].run.tracker → k = s.lanes[l].front.nextIndex →
    ∃ t, exec (causeRow c) s = .next t ∧
      t.lanes[l].run.tracker =
        ((fun T : Tracker => (T.onEdge (s.lanes[l].params.get .nom)
            (s.lanes[l].params.get .trackShift).toNat k).1)^[edges.count .perf] T).timeout
          (s.lanes[l].params.get .lossFactor) k ∧
      t.lanes[l].run.resampler.step =
        (if t.lanes[l].run.tracker.e = T.e then s.lanes[l].run.resampler.step
         else 256 * t.lanes[l].run.tracker.e / s.lanes[l].params.get .samplesPerPerf) ∧
      (0 ≤ s.lanes[l].params.get .nom → 0 ≤ s.lanes[l].params.get .lossFactor → 0 ≤ T.e →
        edges.count .perf ≤ 1 →
        t.lanes[l].latch &&& 0x01 =
            s.lanes[l].latch &&& 0x01 |||
              (if t.lanes[l].run.tracker.state = T.state then 0 else s.lanes[l].mask &&& 0x01) ∧
          (T.state = .acquiring → t.lanes[l].run.tracker.state = .locked →
            exec (.trackLock c) s = .next t) ∧
          (T.state = .locked → t.lanes[l].run.tracker.state = .acquiring →
            exec (.outlierLossOfLock c) s = .next t) ∧
          (T.state ≠ .holdover → t.lanes[l].run.tracker.state = .holdover →
            exec (.trackTimeout c) s = .next t))

/-- R25: with the parameters in their ranges, no step takes E of a RUNNING lane out of [128·NOM, 512·NOM]
(and no step takes a parameter out of its range, R164). -/
def Obligations.TrackerEstimateStaysInRange : Prop :=
  ∀ s t : State, s.EachLane Lane.ParamsOk → s.EachLane Lane.TrackerOk → step s = .next t →
    t.EachLane Lane.ParamsOk ∧ t.EachLane Lane.TrackerOk

/-- R40: the value of a single-rail output, and of each half of a dual-rail one (R41), is formed by the
floored product, lies between the two instants' values that it interpolates, and is the earlier one's at
f = 0. (The combined value of a dual-rail output is formed from its two halves and need not lie between.)
R26, R38, R39, R15, R19, R21: a completed instant is taken by the signal watch, by the tracker with its PERF
edges, by a step that follows a changed E, and by the resampler with its suspect mark and its SPLICE edge,
which a lost signal drops. R39, R42 to R45, R37: a handed SPLICE becomes a pending mark; with no previous
instant there is no output (the first of a run, assumption 8); otherwise outputs are produced one after the
other while floor(RP / 65,536) is the previous instant's index, and, with the step in its range, no longer and
at most 21 of them; each has the next position, its flags and the marks it reaches, which are then no longer
pending, and RP advances by the step. -/
def Obligations.InstantHandsOnItsOutputs : Prop :=
  (∀ (v0 v1 : Int) (f : Nat), f < 65536 →
    interpolate v0 v1 f = v0 + (v1 - v0) * f / 65536 ∧ interpolate v0 v1 0 = v0 ∧
      min v0 v1 ≤ interpolate v0 v1 f ∧ interpolate v0 v1 f ≤ max v0 v1) ∧
  (∀ (l : Lane) (p n : PrevInstant) (f : Nat), f = l.run.resampler.rp.toNat % 65536 →
    (p.halves = none → (outputAt l p n).halves = none ∧ (outputAt l p n).x = interpolate p.x n.x f) ∧
    ∀ h h' : Halves, p.halves = some h → n.halves = some h' →
      (outputAt l p n).halves = some ⟨interpolate h.a h'.a f, interpolate h.b h'.b f⟩ ∧
        (outputAt l p n).x = (interpolate h.a h'.a f + interpolate h.b h'.b f) / 2) ∧
  (∀ (x : Int) (h : Option Halves) (q : Quality) (edges : List EdgeKind) (w v : Work) (k : Pos),
    k = w.lane.front.nextIndex →
    v = watchSignal q { w with lane := { w.lane with front := { w.lane.front with nextIndex := k + 1 } } } →
    completeInstant x h q edges w =
      resampleInstant ⟨x, h, decide (q ≠ .ok ∧ v.lane.front.signal = .ok), k⟩
        (decide (.splice ∈ edges ∧ v.lane.front.signal = .ok))
        ((trackInstant k (edges.count .perf) v).restep v.lane.run.tracker.e)) ∧
  (∀ (rp : BitVec 48) (m : Pos), reached rp m =
    decide ((rp.toNat + 281474976710656 - 65536 * m.toNat) % 281474976710656 < 140737488355328)) ∧
  ∀ (w w' : Work) (next : PrevInstant) (splice : Bool),
    w' = { w with
      lane := { w.lane with
        run := { w.lane.run with
          resampler := { w.lane.run.resampler with
            spliceMarks :=
              if splice = true ∧ next.index ∉ w.lane.run.resampler.spliceMarks then
                w.lane.run.resampler.spliceMarks ++ [next.index]
              else w.lane.run.resampler.spliceMarks } } } } →
    (w.lane.run.resampler.prev = none →
      resampleInstant next splice w =
        w'.setRun { w'.lane.run with resampler := { w'.lane.run.resampler with prev := some next } }) ∧
    ∀ p : PrevInstant, w.lane.run.resampler.prev = some p →
      (∀ (v : Work) (r : Resampler), r = v.lane.run.resampler →
        produce p next v =
          entryEvent
            (v.setRun
              { v.lane.run with
                resampler :=
                  { r with
                    rp := r.rp + BitVec.ofInt 48 r.step
                    nextPos := r.nextPos + 1
                    perfMarks := r.perfMarks.filter fun m => !reached r.rp m
                    spliceMarks := r.spliceMarks.filter fun m => !reached r.rp m } })
            { pos := r.nextPos
              x := (outputAt v.lane p next).x
              halves := (outputAt v.lane p next).halves
              sensor := p.suspect || next.suspect
              lost := decide (v.lane.front.signal = .lost)
              locked := decide (v.lane.run.tracker.state = .locked)
              perfMark := r.perfMarks.any (reached r.rp)
              spliceMark := r.spliceMarks.any (reached r.rp)
              holdover := decide (v.lane.run.tracker.state = .holdover) }) ∧
      ∃ n : Nat, n ≤ 21 ∧
        resampleInstant next splice w =
          ((produce p next)^[n] w').setRun
            { ((produce p next)^[n] w').lane.run with
              resampler :=
                { ((produce p next)^[n] w').lane.run.resampler with prev := some next } } ∧
        (∀ k : Nat, k < n → rpIndex ((produce p next)^[k] w').lane.run.resampler.rp = p.index) ∧
        (3276 ≤ w.lane.run.resampler.step → w.lane.run.resampler.step ≤ 26214400 →
          rpIndex ((produce p next)^[n] w').lane.run.resampler.rp ≠ p.index)

/-! ### The History Ring and departures -/

/-- R47 and R55: no step takes a ring beyond 2,048 entries or its tail beyond eight, or breaks the run of
consecutive positions that ends just before the next output's. -/
def Obligations.RingStaysBounded : Prop :=
  ∀ s t : State, s.EachLane Lane.RingOk → step s = .next t → t.EachLane Lane.RingOk

/-- R51, R52, R53 and R55: the departure test takes departures one after another, each in a state where more
than LOOKAHEAD entries are in the window and no unresolved record covers the oldest, and ends in a state
where that fails; what departs is the oldest of the window, in order, and the tail keeps the latest eight
departed entries. -/
def Obligations.DepartureTestRunsOut : Prop :=
  ∀ w : Work, 0 ≤ w.p .lookahead → w.lane.run.ring.tail.length ≤ 8 →
    ∃ n : Nat, departureTest w = depart^[n] w ∧
      (∀ k : Nat, k < n →
        w.p .lookahead < ((depart^[k] w).lane.run.ring.window.length : Int) ∧
        ∀ e ∈ (depart^[k] w).lane.run.ring.window.head?,
          ∀ r ∈ (depart^[k] w).lane.run.recordOf e,
            r.state = .repaired ∨ r.state = .long ∨ r.state = .abandoned) ∧
      (((departureTest w).lane.run.ring.window.length : Int) ≤ w.p .lookahead ∨
        ∃ e ∈ (departureTest w).lane.run.ring.window.head?,
          ∃ r ∈ (departureTest w).lane.run.recordOf e,
            r.state = .opened ∨ r.state = .queued ∨ r.state = .loaded ∨ r.state = .inRepair) ∧
      (departureTest w).lane.run.ring.window = w.lane.run.ring.window.drop n ∧
      (departureTest w).lane.run.ring.tail =
        (w.lane.run.ring.tail ++
            (w.lane.run.ring.window.take n).map fun e : Entry => { e with departed := true }).drop
          ((w.lane.run.ring.tail ++ w.lane.run.ring.window.take n).length - 8)

/-- R49 and R58 to R60: an entry event that finds the ring at 2,048 entries first makes room. Each step
abandons the unresolved record that covers the oldest window entry (an OPEN one is closed first), raises
OVERRUN, and lets the entry depart; without such a record the entry departs at once. With t entries in the
tail, 9 − t steps leave 2,047, and the arriving entry enters. The abandoned record stays ABANDONED until it
retires. A ring that is not full makes no room. R50 and R154: the ring fill after stage 2 raises the maximum
of the segment that is RUNNING then, also where a departure of stage 1 started it (assumption 32). -/
def Obligations.OverrunMakesRoom : Prop :=
  (∀ (n : Nat) (w : Work), w.lane.run.ring.tail.length + w.lane.run.ring.window.length < 2048 →
    makeRoom n w = w) ∧
  (∀ (x : Work) (e : Entry), ∃ y : Lane,
    x.lane.Counts y (fun r =>
      { r with
        maxFill := max r.maxFill (x.lane.run.ring.tail.length + x.lane.run.ring.window.length + 1) }) ∧
    placeEntry x e =
      { x with
        lane := { y with
          run := { x.lane.run with
            ring := { x.lane.run.ring with window := x.lane.run.ring.window ++ [e] } } } }) ∧
  (∀ (w : Work) (e : Entry) (es : List Entry), w.lane.run.ring.window = e :: es →
    ((∀ r ∈ w.lane.run.queue.records, e.link = some r.id →
        r.state = .repaired ∨ r.state = .long ∨ r.state = .abandoned) →
      makeRoomOnce w = depart w) ∧
    ∀ (pre post : List DefectRecord) (r : DefectRecord),
      w.lane.run.queue.records = pre ++ r :: post → (∀ q ∈ pre ++ post, q.id ≠ r.id) →
      e.link = some r.id →
      r.state = .opened ∨ r.state = .queued ∨ r.state = .loaded ∨ r.state = .inRepair →
      makeRoomOnce w = depart
        { w with
          lane := { w.lane with
            latch := w.lane.latch ||| (0x20 &&& w.lane.mask)
            run := { w.lane.run with
              queue := { w.lane.run.queue with
                records := pre ++ { r with state := .abandoned } :: post }
              detector :=
                if r.state = .opened then
                  { w.lane.run.detector with lastEnd := some r.stop, quietA := 0, quietB := 0 }
                else w.lane.run.detector } } }) ∧
  ∀ (w : Work) (o : Output) (n : Nat) (x : Work) (e : Entry),
    w.lane.run.ring.tail.length ≤ 8 →
    w.lane.run.ring.tail.length + w.lane.run.ring.window.length = 2048 →
    n = 9 - w.lane.run.ring.tail.length → x = makeRoomOnce^[n] (indexOutput w o) →
    e = newEntry x.lane.run.queue o (indicesOf w.lane o)
      (workingValue w.lane o (indicesOf w.lane o)) →
    entryEvent w o = departureTest (examine (placeEntry x e) e) ∧
      x.lane.run.ring.tail.length + x.lane.run.ring.window.length = 2047 ∧
      ∀ (f : Entry) (pre post : List DefectRecord) (r : DefectRecord),
        w.lane.run.ring.window.head? = some f → f.link = some r.id →
        w.lane.run.queue.records = pre ++ r :: post → (∀ q ∈ pre ++ post, q.id ≠ r.id) →
        w.lane.run.detector.nextId ≠ r.id →
        r.state = .opened ∨ r.state = .queued ∨ r.state = .loaded ∨ r.state = .inRepair →
        (entryEvent w o).lane.latch &&& 0x20 =
            w.lane.latch &&& 0x20 ||| (w.lane.mask &&& 0x20) ∧
          ∀ q ∈ (entryEvent w o).lane.run.queue.records, q.id = r.id →
            q.state = .abandoned ∧ q.start = r.start ∧ q.stop = r.stop

/-- R54: the departing value of an entry by its REPAIRED flag and its covering record's state. R130 to R133: a
departing value splits into two bands, the level follows the high band, and the floor is updated by its mode:
TRACK counts runs of 256 and ends one, HOLD keeps the floor, FIXED sets it to FLOOR_VALUE, and HOLD and FIXED
drop a partial run, at the first departure taken in them (the moment: assumption 11). R134: the gain index,
the smoothed gain, and the restored value, which with HISS_ON at OFF is the departing value. -/
def Obligations.DepartingAndRestoredValues : Prop :=
  (∀ (l : Lane) (e : Entry) (r : DefectRecord),
    departingValue l e none = e.w ∧
    (e.repaired = true → departingValue l e (some r) = e.w) ∧
    (e.repaired = false → r.state = .long →
      (l.params.get .longPolicy = 0 → departingValue l e (some r) = e.w) ∧
      (l.params.get .longPolicy = 1 → departingValue l e (some r) = e.w / 4) ∧
      (l.params.get .longPolicy = 2 → departingValue l e (some r) = 0)) ∧
    (e.repaired = false → r.state = .abandoned →
      (l.params.get .overrunPolicy = 0 → departingValue l e (some r) = e.w) ∧
      (l.params.get .overrunPolicy = 1 → departingValue l e (some r) = 0))) ∧
  (∀ (w : Work) (xd lp v lv n gs : Int) (count : Nat) (m : Option Int) (ended : Bool) (h : HissReducer),
    h = w.lane.run.hiss → lp = h.lp + (xd - h.lp) / 2 ^ (w.p .hissSplit).toNat → v = 16 * |xd - lp| →
    lv = (if h.level < v then h.level + (v - h.level) / 2 ^ (w.p .hissAttack).toNat
      else h.level + (v - h.level) / 2 ^ (w.p .hissRelease).toNat) →
    (w.p .floorMode = 0 → h.runCount < 255 →
      ended = false ∧ n = h.floor ∧ count = h.runCount + 1 ∧ m = some (h.runMin.elim lv (min lv))) →
    (w.p .floorMode = 0 → 255 ≤ h.runCount →
      ended = true ∧ count = 0 ∧ m = none ∧
        n = (if h.runMin.elim lv (min lv) < h.floor then max 1 (h.runMin.elim lv (min lv))
          else h.floor + (h.runMin.elim lv (min lv) - h.floor) / 2 ^ (w.p .floorRise).toNat)) →
    (w.p .floorMode = 1 → ended = false ∧ n = h.floor ∧ count = 0 ∧ m = none) →
    (w.p .floorMode = 2 → ended = false ∧ n = w.p .floorValue ∧ count = 0 ∧ m = none) →
    0 ≤ w.p .floorMode → w.p .floorMode ≤ 2 →
    gs = h.gain + (w.lane.gainTable.getD (min 63 (8 * lv / n)).toNat 0 - h.gain) / 8 →
    hissDepart w xd =
      { w with
        lane := { w.lane with
          run := { w.lane.run with
            hiss := { lp, level := lv, floor := n, gain := gs, runCount := count, runMin := m } } }
        trace := if ended = true then .floorUpdate :: w.trace else w.trace }) ∧
  ∀ (h : HissReducer) (xd : Int),
    restored h 1 xd =
        max (-8388608) (min 8388607 (h.lp + ((xd - h.lp) * h.gain + 16384) / 32768)) ∧
      restored h 0 xd = xd

/-! ### Hum templates -/

/-- R66 to R68: the indices of an entry from those of the one before it, by P, Q, the entry's mark and the
tracker state handed on with it; that they stay in their templates; and that the entry carries them. -/
def Obligations.SprocketAndLineIndices : Prop :=
  (∀ (h : HumIndex) (p q : Nat) (mark holdover : Bool), h.ts < p → h.tl < q →
    (h.indexed = false → h.next p q mark holdover = ⟨0, 0, true⟩) ∧
    (h.indexed = true →
      (h.next p q mark holdover).ts =
        (if mark = true then 0
         else if h.ts < p - 1 then h.ts + 1
         else if holdover = true then 0 else p - 1) ∧
      (h.next p q mark holdover).tl = (h.tl + 1) % q) ∧
    (h.next p q mark holdover).ts < p ∧ (h.next p q mark holdover).tl < q) ∧
  ∀ (w : Work) (o : Output) (h : HumIndex) (p q : Nat), w.p .samplesPerPerf = (p : Int) →
    w.p .linePeriod = (q : Int) → h = w.lane.run.hum.next p q o.perfMark o.holdover →
    (indexOutput w o).lane.run.hum = h ∧
    ∀ (x : Work) (e : Entry),
      x = makeRoom (indexOutput w o).lane.run.ring.window.length (indexOutput w o) →
      e = newEntry x.lane.run.queue o h (workingValue w.lane o h) →
      e.ts = h.ts ∧ e.tl = h.tl ∧ entryEvent w o = departureTest (examine (placeEntry x e) e)

/-- R69, R18 and R70: the working value formed at entry, which for a LOST entry is 0 or the hold value, and
the hold value that a non-LOST entry leaves. R71 to R73: at a departure a marked LOCKED entry is a SPROCKET
boundary and one of index 0 a LINE boundary, in mode LEARN; each counts a cycle, and at SWAP_CYCLES the
template swaps. R74 and R75: an entry without SENSOR, LOST or DEFECT then teaches LINE, and SPROCKET when it
is LOCKED, each against the other's ACTIVE value. R71: stage 3 of a departure is the boundaries with their
swaps, and the teaching after them. A learning step moves an accumulator toward 256 times its
target and never past it: a falling one moves at every step, a rising one stops only within 2^λ below. -/
def Obligations.SubtractionAndLearning : Prop :=
  (∀ x hS tS hL tL : Int,
    subtractHum x hS tS hL tL =
        max (-8388608) (min 8388607 (x - (hS * tS + 128) / 256 - (hL * tL + 128) / 256)) ∧
      In24 (subtractHum x hS tS hL tL)) ∧
  (∀ (w : Work) (o : Output) (h : HumIndex) (v : Int), h = indicesOf w.lane o →
    v = (if o.lost = true then (if w.p .muteOnLoss = 1 then 0 else w.lane.front.holdValue)
      else subtractHum o.x (w.p .sprocketDepth) (w.lane.sprocket.active.getD h.ts 0)
        (w.p .lineDepth) (w.lane.line.active.getD h.tl 0)) →
    workingValue w.lane o h = v ∧
    (indexOutput w o).lane.front =
      { w.lane.front with holdValue := if o.lost = true then w.lane.front.holdValue else v } ∧
    ∀ q : DefectQueue, (newEntry q o h v).w = v ∧ (newEntry q o h v).x = o.x) ∧
  (∀ (w : Work) (e : Entry), humDepart w e = teachTemplates (countBoundaries w e) e) ∧
  (∀ (w : Work) (e : Entry), (countBoundaries w e).lane =
    { w.lane with
      sprocket :=
        if e.locked = true ∧ e.perfMark = true ∧ w.p .sprocketMode = 0 then
          if w.p .swapCycles ≤ (w.lane.sprocket.cycles : Int) + 1 then
            ⟨w.lane.sprocket.acc.map fun a => max (-8388608) (min 8388607 ((a + 128) / 256)),
              w.lane.sprocket.acc.map fun a => 256 * max (-8388608) (min 8388607 ((a + 128) / 256)), 0⟩
          else { w.lane.sprocket with cycles := w.lane.sprocket.cycles + 1 }
        else w.lane.sprocket
      line :=
        if e.tl = 0 ∧ w.p .lineMode = 0 then
          if w.p .swapCycles ≤ (w.lane.line.cycles : Int) + 1 then
            ⟨w.lane.line.acc.map fun a => max (-8388608) (min 8388607 ((a + 128) / 256)),
              w.lane.line.acc.map fun a => 256 * max (-8388608) (min 8388607 ((a + 128) / 256)), 0⟩
          else { w.lane.line with cycles := w.lane.line.cycles + 1 }
        else w.lane.line }) ∧
  (∀ (w : Work) (e : Entry), (teachTemplates w e).lane =
    { w.lane with
      sprocket :=
        if w.p .sprocketMode = 0 ∧ e.locked = true ∧ e.sensor = false ∧ e.lost = false ∧
            e.defect = false then
          { w.lane.sprocket with
            acc := w.lane.sprocket.acc.set e.ts
              (learnStep (w.lane.sprocket.acc.getD e.ts 0)
                (max (-8388608) (min 8388607 (e.x - w.lane.line.active.getD e.tl 0)))
                (w.p .sprocketLearnShift).toNat) }
        else w.lane.sprocket
      line :=
        if w.p .lineMode = 0 ∧ e.sensor = false ∧ e.lost = false ∧ e.defect = false then
          { w.lane.line with
            acc := w.lane.line.acc.set e.tl
              (learnStep (w.lane.line.acc.getD e.tl 0)
                (max (-8388608) (min 8388607 (e.x - w.lane.sprocket.active.getD e.ts 0)))
                (w.p .lineLearnShift).toNat) }
        else w.lane.line }) ∧
  ∀ (acc u : Int) (k : Nat),
    learnStep acc u k = acc + (256 * u - acc) / 2 ^ k ∧
    (acc ≤ 256 * u → acc ≤ learnStep acc u k ∧ learnStep acc u k ≤ 256 * u) ∧
    (256 * u < acc → 256 * u ≤ learnStep acc u k ∧ learnStep acc u k < acc) ∧
    (learnStep acc u k = acc ↔ 0 ≤ 256 * u - acc ∧ 256 * u - acc < 2 ^ k)

/-- R64, R65, R125, R135 and R164: no step takes a parameter out of its range, or a lane's templates,
predictor or gain table out of their lengths and ranges. -/
def Obligations.ConfigurationStaysInRange : Prop :=
  ∀ s t : State, s.EachLane Lane.ParamsOk → s.EachLane Lane.TablesOk → step s = .next t →
    t.EachLane Lane.ParamsOk ∧ t.EachLane Lane.TablesOk

/-! ### Click detection and the Defect Queue -/

/-- R83 to R87: a LOST entry is not examined. Any other settles, and its second difference, half difference
and half energies are formed from the history; its causes are those whose test passes against the envelopes and
the mean as they stood, impulse and asymmetry only with CLICK_ON ON and after settling, SENSOR always; the
record actions and the closing test follow; then the envelopes and the mean learn, unless the entry fired, and
the entry becomes the newest item of the history. -/
def Obligations.ExaminationMeasuresAndLearns : Prop :=
  (∀ (w : Work) (n : Entry), n.lost = true → examine w n = w) ∧
  ∀ (w v : Work) (n : Entry) (D : Detector) (e dlt a : Option Int) (eA eB : Nat) (c : Causes)
    (fires : Bool), n.lost = false → D = w.lane.run.detector →
    e = (match D.history with
      | i :: j :: _ => some (n.w - 2 * i.w + j.w)
      | _ => none) →
    (eA, eB) = (match D.history with
      | i :: j :: _ =>
        match n.halves, i.halves, j.halves with
        | some h, some h₁, some h₂ =>
          ((h.a - 2 * h₁.a + h₂.a).natAbs, (h.b - 2 * h₁.b + h₂.b).natAbs)
        | _, _, _ => (0, 0)
      | _ => (0, 0)) →
    dlt = (n.halves.map fun h => 16 * (h.a - h.b)) → a = (dlt.map fun x => |x - D.meanM|) →
    c.sensor = n.sensor →
    (c.impulse = true ↔ D.settle = 0 ∧ w.p .clickOn = 1 ∧
      ∃ x ∈ e, 16 * w.p .impulseFloor < 16 * |x| ∧ w.p .impulseFactor * D.envA < 4 * (16 * |x|)) →
    (c.asymmetry = true ↔ D.settle = 0 ∧ w.p .clickOn = 1 ∧
      ∃ x ∈ a, 16 * w.p .asymFloor < x ∧ w.p .asymFactor * D.envAa < 4 * x) →
    (c.splice = true ↔ n.spliceMark = true ∧ 0 < w.p .spliceSpan) →
    fires = (c.impulse || c.asymmetry || c.sensor) →
    v = closingTest
      (recordActions
        { w with
          lane := { w.lane with
            run := { w.lane.run with detector := { D with settle := D.settle - 1 } } } }
        n ⟨e, dlt, eA, eB⟩
        { fires
          splice := if n.spliceMark = true then (w.p .spliceSpan).toNat else 0
          causes := c
          peak := if fires = true then (e.map Int.natAbs).getD 0 else 0 })
      n.pos →
    examine w n =
      { v with
        lane := { v.lane with
          run := { v.lane.run with
            detector := { v.lane.run.detector with
              history := ⟨n.w, n.halves, eA, eB⟩ :: D.history.take 1
              settle := D.settle - 1
              envA :=
                if fires = true then D.envA
                else e.elim D.envA fun x => D.envA + (16 * |x| - D.envA) / 64
              meanM :=
                if fires = true then D.meanM
                else dlt.elim D.meanM fun x => D.meanM + (x - D.meanM) / 256
              envAa :=
                if fires = true then D.envAa
                else a.elim D.envAa fun x => D.envAa + (x - D.envAa) / 64 } } } }

/-- R89 to R91, R93, R95, R96 and R99, with no record open. An entry that asks nothing, or is covered, changes
nothing. One that fires or carries a splice opens a record with the next id: for a firing from two entries
before it (or as many as the run has, assumption 19), for a splice alone from itself, above a last end one or
two positions before it; to two after it, or to the splice's end; with the demand's causes and peak, the
over-length mark when it is longer than MAX_REPAIR, and the half-energy sums over its examined entries. The
window's entries in its span are covered. With 32 records in the queue the attempt is a drop, counted in the
running segment, that raises QUEUE_FULL once. -/
def Obligations.FiringOpensOrDrops : Prop :=
  ∀ (w : Work) (n : Entry) (m : Measures) (d : Demand),
    (∀ r ∈ w.lane.run.queue.records, r.state ≠ .opened) →
    (n.link ≠ none ∨ d.fires = false ∧ d.splice = 0 → recordActions w n m d = w) ∧
    (n.link = none → d.fires = true ∨ 1 ≤ d.splice →
      (32 ≤ w.lane.run.queue.records.length →
        recordActions w n m d = { w with lane := w.lane.withDrop }) ∧
      ∀ (start stop : Pos) (k : Nat), w.lane.run.queue.records.length < 32 →
        k = (if d.fires = true then min 2 (w.lane.run.ring.fill - 1) else 0) →
        (w.lane.run.detector.lastEnd = none → start = n.pos - BitVec.ofNat 32 k) →
        (∀ e, w.lane.run.detector.lastEnd = some e →
          start = if n.pos - e = 1 then n.pos else if n.pos - e = 2 then n.pos - BitVec.ofNat 32 (min 1 k)
            else n.pos - BitVec.ofNat 32 k) →
        stop = n.pos + BitVec.ofNat 32 d.beyond →
        recordActions w n m d =
          { w with
            lane := w.lane.withOpened
              { id := w.lane.run.detector.nextId, start, stop, causes := d.causes, peak := d.peak
                overLength := decide (w.p .maxRepair < (((stop - start).toNat + 1 : Nat) : Int))
                sumA := min (((w.lane.run.detector.history.take (n.pos - start).toNat).map
                  (·.absEA)).sum + m.absEA) 4294967295
                sumB := min (((w.lane.run.detector.history.take (n.pos - start).toNat).map
                  (·.absEB)).sum + m.absEB) 4294967295
                state := .opened, kind := none, cleanHalf := none, holding := none } })

/-- R92 to R96, with the record r open. With its start o positions before the entry: an entry that asks nothing adds its half
energies to the sums in the span, and to the quiet sums beyond it. A firing or a splice raises the end, adds
causes and peak, sets the over-length mark when the record is longer than MAX_REPAIR, and takes quiet sums and
its own energies into the sums. Beyond 1,024 entries the end is start + 1,023 and the record closes as LONG;
an entry beyond that end is then taken with no record open and uncovered, and leaves the record's sums as they
were, the quiet sums and its own energies lost (assumption 23), and the rest of a splice opens a record of its
own (assumption 10; a firing's causes and peak stay: assumption 9). With the record's start b positions beyond
the entry, as a splice's rest may start, a firing or a splice extends the record all the same, though a closed
record covers the entry (of a splice the model's choice, assumption 36), and no sums change. The closing test
closes the record exactly at the entry eight beyond its end, as QUEUED, or as LONG with the mark. -/
def Obligations.OpenRecordGrowsAndCloses : Prop :=
  ∀ (w : Work) (n : Entry) (pre post : List DefectRecord) (r : DefectRecord) (g : Nat),
    w.lane.run.queue.records = pre ++ r :: post →
    (∀ q ∈ pre ++ post, q.state ≠ .opened ∧ q.id ≠ r.id) → r.state = .opened →
    g = (r.stop - r.start).toNat → g ≤ 1023 →
    (closingTest w n.pos =
      if n.pos = r.stop + 8 then
        { w with
          lane := { w.lane with
            run := { w.lane.run with
              queue := { w.lane.run.queue with
                records :=
                  pre ++ { r with state := if r.overLength = true then .long else .queued } :: post }
              detector := { w.lane.run.detector with lastEnd := some r.stop, quietA := 0, quietB := 0 } } }
          trace := .recordClose :: w.trace }
      else w) ∧
    (∀ (b : Nat) (m : Measures) (d : Demand), b = (r.start - n.pos).toNat → 1 ≤ b → b ≤ 2147483648 →
      d.splice ≤ 48 →
      (d.fires = false → d.splice = 0 → recordActions w n m d = w) ∧
      (d.fires = true ∨ 1 ≤ d.splice →
        ∀ r' : DefectRecord,
          r' = { r with
            causes := ⟨r.causes.impulse || d.causes.impulse, r.causes.asymmetry || d.causes.asymmetry,
              r.causes.sensor || d.causes.sensor, r.causes.splice || d.causes.splice⟩
            peak := max r.peak d.peak
            stop := r.start + BitVec.ofNat 32 (max g (d.beyond - b))
            overLength := r.overLength ||
              decide (w.p .maxRepair < ((max g (d.beyond - b) + 1 : Nat) : Int)) } →
          recordActions w n m d =
            { w with
              lane := { w.lane with
                run := { w.lane.run with
                  ring := w.lane.run.ring.covered r'
                  queue := { w.lane.run.queue with records := pre ++ r' :: post } } } })) ∧
    ∀ (o : Nat) (m : Measures) (d : Demand) (qA qB : Nat), o = (n.pos - r.start).toNat → o < 2147483648 →
      qA = min (w.lane.run.detector.quietA + m.absEA) 4294967295 →
      qB = min (w.lane.run.detector.quietB + m.absEB) 4294967295 →
      (d.fires = false → d.splice = 0 →
        recordActions w n m d =
          { w with
            lane := { w.lane with
              run := { w.lane.run with
                queue := { w.lane.run.queue with
                  records := pre ++
                    (if o ≤ g then
                      { r with
                        sumA := min (min (r.sumA + w.lane.run.detector.quietA) 4294967295 + m.absEA)
                          4294967295
                        sumB := min (min (r.sumB + w.lane.run.detector.quietB) 4294967295 + m.absEB)
                          4294967295 }
                     else r) :: post }
                detector := { w.lane.run.detector with
                  quietA := if o ≤ g then 0 else qA
                  quietB := if o ≤ g then 0 else qB } } } }) ∧
      (d.fires = true ∨ 1 ≤ d.splice →
        ∀ (t r' : DefectRecord) (x : Lane),
          t = { r with
            causes := ⟨r.causes.impulse || d.causes.impulse, r.causes.asymmetry || d.causes.asymmetry,
              r.causes.sensor || d.causes.sensor, r.causes.splice || d.causes.splice⟩
            peak := max r.peak d.peak
            sumA := min (min (r.sumA + w.lane.run.detector.quietA) 4294967295 + m.absEA) 4294967295
            sumB := min (min (r.sumB + w.lane.run.detector.quietB) 4294967295 + m.absEB) 4294967295 } →
          (o + d.beyond ≤ 1023 →
            r' = { t with
              stop := r.start + BitVec.ofNat 32 (max g (o + d.beyond))
              overLength := r.overLength ||
                decide (w.p .maxRepair < ((max g (o + d.beyond) + 1 : Nat) : Int)) } →
            recordActions w n m d =
              { w with
                lane := { w.lane with
                  run := { w.lane.run with
                    ring := w.lane.run.ring.covered r'
                    queue := { w.lane.run.queue with records := pre ++ r' :: post }
                    detector := { w.lane.run.detector with quietA := 0, quietB := 0 } } } }) ∧
          (1023 < o + d.beyond →
            r' = { t with
              stop := r.start + 1023
              overLength := r.overLength || decide (w.p .maxRepair < 1024)
              sumA := if o ≤ 1023 then t.sumA else r.sumA
              sumB := if o ≤ 1023 then t.sumB else r.sumB
              state := .long } →
            x = { w.lane with
              run := { w.lane.run with
                ring := w.lane.run.ring.covered r'
                queue := { w.lane.run.queue with records := pre ++ r' :: post }
                detector := { w.lane.run.detector with
                  lastEnd := some r'.stop, quietA := 0, quietB := 0 } } } →
            (1023 < o →
              recordActions w n m d = recordActions { w with lane := x } { n with link := none } m d) ∧
            (o ≤ 1023 → o + (d.splice - 1) ≤ 1023 → recordActions w n m d = { w with lane := x }) ∧
            (o ≤ 1023 → 1023 < o + (d.splice - 1) →
              (32 ≤ (pre ++ r :: post).length →
                recordActions w n m d = { w with lane := x.withDrop }) ∧
              ∀ stop : Pos, (pre ++ r :: post).length < 32 →
                stop = n.pos + BitVec.ofNat 32 (d.splice - 1) →
                recordActions w n m d =
                  { w with
                    lane := x.withOpened
                      { id := w.lane.run.detector.nextId, start := r.start + 1024, stop
                        causes := ⟨false, false, false, true⟩, peak := 0
                        overLength := decide
                          (w.p .maxRepair < (((stop - (r.start + 1024)).toNat + 1 : Nat) : Int))
                        sumA := 0, sumB := 0, state := .opened, kind := none, cleanHalf := none
                        holding := none } })))

/-- R93, as the row RECORD_CLOSE: an instant of quality OK without edges, whose one output is the eighth
examined entry beyond the open record's end, closes the record as QUEUED, or as LONG with the over-length
mark, and sets the last end. The entry does not fire, as CLICK_ON is OFF or it settles, and nothing
departs. It holds of words on single-rail and dual-rail lanes and of generated instants. That the row
carries its cause and is its whole step is the model's choice (assumption 4). -/
def Obligations.RecordClosesAfterEightQuiet : Prop :=
  ∀ (s : State) (l : LaneId) (c : Cause) (p : PrevInstant) (pre : List DefectRecord)
    (r : DefectRecord), s.completes l c = some (.ok, []) →
    s.lanes[l].front.signal = .ok → s.lanes[l].run.resampler.prev = some p →
    p.suspect = false → s.lanes[l].run.resampler.spliceMarks = [] →
    rpIndex s.lanes[l].run.resampler.rp = p.index →
    rpIndex (s.lanes[l].run.resampler.rp + BitVec.ofInt 48 s.lanes[l].run.resampler.step) ≠
      p.index →
    (s.lanes[l].params.get .clickOn = 0 ∨ 0 < s.lanes[l].run.detector.settle) →
    s.lanes[l].run.ring.fill < 2048 →
    (s.lanes[l].run.ring.window.length : Int) < s.lanes[l].params.get .lookahead →
    s.lanes[l].run.queue.records = pre ++ [r] → (∀ q ∈ pre, q.state ≠ .opened ∧ q.id ≠ r.id) →
    r.state = .opened → s.lanes[l].run.resampler.nextPos = r.stop + 8 →
    (∀ q ∈ pre ++ [r], inSpan q.start q.stop (r.stop + 8) = false) →
    ∃ t, exec (.recordClose c) s = .next t ∧ exec (causeRow c) s = .next t ∧
      t.lanes[l].run.queue.records =
        pre ++ [{ r with state := if r.overLength = true then .long else .queued }] ∧
      t.lanes[l].run.detector.lastEnd = some r.stop ∧ t.lanes[l].run.detector.quietA = 0 ∧
      t.lanes[l].run.detector.quietB = 0

/-- R53 (stage 6), R56, R100 and R101: a departure is taken in the stages' order, and the record whose last
entry departs retires after the slots' judgement: it is counted by outcome and causes in the segment then
RUNNING, its report of 18 payload bytes is offered when that segment asks for one (and dropped, counted and
raised as REPORT_DROP where 4,096 bytes would not stay free), and it leaves the queue, whose full-notice
mark is cleared below 32 records. With no segment RUNNING it is counted and reported nowhere. -/
def Obligations.RetirementCountsReportsRemoves : Prop :=
  (∀ (w : Work) (r : DefectRecord) (queue : DefectQueue),
    queue =
      ⟨w.lane.run.queue.records.filter (fun q => decide (q.id ≠ r.id)),
        w.lane.run.queue.fullNotice && decide
          (32 ≤ (w.lane.run.queue.records.filter (fun q => decide (q.id ≠ r.id))).length)⟩ →
    (w.lane.runningSlot = none →
      retire w none r = { w with lane := { w.lane with run := { w.lane.run with queue } } }) ∧
    ∀ (i : SlotId) (d : Descriptor) (q q' : Report) (req : Bool) (m : Nat) (x : Lane) (bytes : List Byte),
      w.lane.runningSlot = some i → w.lane.slot i = .running d q req m →
      r.state = .repaired ∨ r.state = .long ∨ r.state = .abandoned →
      q' = { q with
            repairedInterpolate :=
              if r.state = .repaired ∧ r.kind ≠ some .half then
                min (q.repairedInterpolate + 1) 4294967295 else q.repairedInterpolate
            repairedHalf :=
              if r.state = .repaired ∧ r.kind = some .half then min (q.repairedHalf + 1) 4294967295
              else q.repairedHalf
            long := if r.state = .long then min (q.long + 1) 4294967295 else q.long
            abandoned :=
              if r.state = .abandoned then min (q.abandoned + 1) 4294967295 else q.abandoned
            impulse := if r.causes.impulse = true then min (q.impulse + 1) 4294967295 else q.impulse
            asymmetry :=
              if r.causes.asymmetry = true then min (q.asymmetry + 1) 4294967295 else q.asymmetry
            sensor := if r.causes.sensor = true then min (q.sensor + 1) 4294967295 else q.sensor
            splice := if r.causes.splice = true then min (q.splice + 1) 4294967295 else q.splice } →
      x = { w.lane with run := { w.lane.run with queue } } →
      bytes =
        be 2 d.segId.toNat ++ be 2 r.id.toNat ++ be 4 r.start.toNat ++
          be 2 ((r.stop - r.start).toNat + 1) ++ [causesByte r.causes, r.state.code] ++
          (if r.state = .repaired then
            repairBytes r.kind (if r.kind = some .half then r.cleanHalf else none) else [0, 0]) ++
          be 4 r.peak →
      (d.reports = false → retire w (some d) r = { w with lane := x.setSlot i (.running d q' req m) }) ∧
      (d.reports = true → usedBytes w.outbound + 25 + 4096 ≤ 65536 →
        retire w (some d) r =
          { w with
            lane := x.setSlot i (.running d q' req m)
            outbound := w.outbound ++ [⟨0x41, 0, BitVec.ofNat 8 w.id.val, bytes⟩] }) ∧
      (d.reports = true → 65536 < usedBytes w.outbound + 25 + 4096 →
        retire w (some d) r =
          { w with
            lane :=
              { x.setSlot i (.running d
                  { q' with reportsDropped := min (q'.reportsDropped + 1) 4294967295 } req m) with
                latch := w.lane.latch ||| (0x80 &&& w.lane.mask) } })) ∧
  ∀ (w w₁ w₄ w₅ : Work) (e e' : Entry) (es : List Entry) (r : Option DefectRecord) (xd : Int),
    w.lane.run.ring.window = e :: es → r = w.lane.run.recordOf e → e' = { e with departed := true } →
    w₁ = { w with
          lane := { w.lane with
            run := { w.lane.run with
              ring :=
                { tail :=
                    (w.lane.run.ring.tail ++ [e']).drop
                      (if 8 < w.lane.run.ring.tail.length + 1 then 1 else 0)
                  window := es } } } } →
    xd = departingValue w.lane e r → w₄ = hissDepart (humDepart w₁ e') xd →
    w₅ = judge w₄ e' (restored w₄.lane.run.hiss (w.p .hissOn) xd) →
    depart w =
      match r with
      | some q => if e.pos = q.stop then retire w₅ w₅.lane.runningDescriptor q else w₅
      | none => w₅

/-- R89, R94 and R97: with the parameters in their ranges, no step takes a Defect Queue beyond 32 records or
a record's length out of 1 to 1,024. -/
def Obligations.RecordsStayBounded : Prop :=
  ∀ s t : State, s.EachLane Lane.ParamsOk → s.EachLane Lane.QueueOk → step s = .next t →
    t.EachLane Lane.ParamsOk ∧ t.EachLane Lane.QueueOk

/-- R47, R48, R89 to R91, R94 and R97: with the parameters, the ring and the queue's bounds as the other
invariants have them, no step takes the records of a lane out of order: ids, spans, the one OPEN record at
the end, the last end, and the links of the window's entries stay as RecordsOk says. -/
def Obligations.RecordsStayInOrder : Prop :=
  ∀ s t : State, s.EachLane Lane.ParamsOk → s.EachLane Lane.RingOk → s.EachLane Lane.QueueOk →
    s.EachLane Lane.RecordsOk → step s = .next t → t.EachLane Lane.RecordsOk

/-- R105: two parts that differ in a lane only in its slots, output stream, dither, mask, latch and run
number, and in the outbound queue and everything else outside the lane, take the same word or
generated instant to the same front end, tracker, resampler, ring, templates, detector, queue and hiss reducer. -/
def Obligations.SegmentsDoNotReachDetection : Prop :=
  ∀ (s s' t t' : State) (i : Instr) (l : LaneId),
    i = .generatorInstant l ∨ (∃ w, i = .sensorWord w ∧ (sensorFields w).lane = l) →
    s.resetHeld = s'.resetHeld → SameSignalPath s.lanes[l] s'.lanes[l] →
    exec i s = .next t → exec i s' = .next t' →
    SameSignalPath t.lanes[l] t'.lanes[l]

/-! ### Hiss reduction, output and segments -/

/-- R132 and R134: with parameters and tables in their ranges, no step takes a RUNNING lane's smoothed gain
out of 0 to 32,768, its floor below 1, or its level below 0 (the level's upper limit is not stated); and
at a gain of 32,768 the restored value is the departing value. -/
def Obligations.HissGainAndFloorStayInRange : Prop :=
  (∀ lp xd : Int, In24 xd → restore lp (xd - lp) 32768 = xd) ∧
  ∀ s t : State, s.EachLane Lane.ParamsOk → s.EachLane Lane.TablesOk → s.EachLane Lane.HissOk →
    step s = .next t →
    t.EachLane Lane.ParamsOk ∧ t.EachLane Lane.TablesOk ∧ t.EachLane Lane.HissOk

/-- R137, R138 and R140: without a RUNNING segment a departure takes no sample. With one, the sample's source
value goes by the output kind, is converted to the word length with the dither value r1 − r2 of two draws, of a
16-bit segment with dither alone, is appended to the block, whose first sample gives its first position, and is
counted; a block of BLOCK_SIZE samples is offered and the next one begins. R139: a step's feedback is the parity
of the bits of weights 2^23, 2^22, 2^21 and 2^16, and a draw is eight steps; the register never reaches 0 from a
non-zero value. R138: a dither value lies within −255 to 255, and every converted sample within its word. The
bytes of a stream block (09, Stream block payload), for a first position that its field can hold. -/
def Obligations.OutputSamplesAndBlocks : Prop :=
  (∀ s : BitVec 24, s ≠ 0 →
    ditherStep s ≠ 0 ∧ ditherDraw s ≠ 0 ∧ ∀ d : Descriptor, ditherAfter d s ≠ 0) ∧
  (∀ (d : Descriptor) (s : BitVec 24), -255 ≤ ditherValue d s ∧ ditherValue d s ≤ 255) ∧
  (∀ val dd : Int, In24 val → In24 (convert .bits24 val dd) ∧
    -32768 ≤ convert .bits16 val dd ∧ convert .bits16 val dd ≤ 32767) ∧
  (∀ s : BitVec 24, (ditherStep s).toNat =
      2 * s.toNat % 16777216 +
        (s.getLsbD 23 ^^ s.getLsbD 22 ^^ s.getLsbD 21 ^^ s.getLsbD 16).toNat ∧
    ditherDraw s = ditherStep^[8] s) ∧
  (∀ (l : LaneId) (d : Descriptor) (first : Nat) (samples : List Int), first ≤ 4294967295 →
    streamBlock l d first samples =
      ⟨0x40, 0, BitVec.ofNat 8 l.val,
        be 2 d.segId.toNat ++ be 4 first ++ be 2 samples.length ++
          [if d.word = .bits24 then 24 else 16,
            if d.output = .restored then 0 else if d.output = .original then 1 else 2] ++
          samples.flatMap (beInt (if d.word = .bits24 then 3 else 2))⟩) ∧
  (∀ (w : Work) (e : Entry) (y : Int), w.lane.runningSlot = none → outputStep w e y = w) ∧
  ∀ (w w' : Work) (e : Entry) (y val dd v : Int) (i : SlotId) (d : Descriptor) (r : Report) (req : Bool)
    (m : Nat) (draws : Bool) (s s₁ s₂ : BitVec 24) (f : Former),
    w.lane.runningSlot = some i → w.lane.slot i = .running d r req m →
    val = (if d.output = .restored then y else if d.output = .original then e.x
      else max (-8388608) (min 8388607 (e.x - y))) →
    draws = decide (d.word = .bits16 ∧ d.dither = true) → s = w.lane.run.dither →
    s₁ = ditherDraw s → s₂ = ditherDraw s₁ →
    dd = (if draws = true then ((s₁.toNat % 256 : Nat) : Int) - ((s₂.toNat % 256 : Nat) : Int) else 0) →
    v = (if d.word = .bits24 then val else max (-32768) (min 32767 ((val + dd + 128) / 256))) →
    f = { nextPos := w.lane.run.former.nextPos + 1
          first :=
            if w.lane.run.former.block = [] then w.lane.run.former.nextPos else w.lane.run.former.first
          block := w.lane.run.former.block ++ [v] } →
    w' = { w with
      lane := { w.lane.setSlot i
          (.running d
            { r with
              samples := min (r.samples + 1) 4294967295
              lostOutput := if e.lost = true then min (r.lostOutput + 1) 4294967295 else r.lostOutput }
            req m) with
        run := { w.lane.run with
          dither := if draws = true then s₂ else s
          former := if w.p .blockSize ≤ (f.block.length : Int) then { f with block := [] } else f } } } →
    outputStep w e y =
      if w.p .blockSize ≤ (f.block.length : Int) then offerBlock w' d f.first f.block else w'

/-- R97, R98, R144 and R145: no step leaves two slots of a lane RUNNING, a slot RUNNING or a record on a lane
that is not RUNNING, or a load order that is not the list of the LOADED slots. -/
def Obligations.SlotsStayLawful : Prop :=
  ∀ s t : State, s.EachLane Lane.SlotsOk → step s = .next t → t.EachLane Lane.SlotsOk

/-- R146: a judgement is the end test, the start test and the output. R149, R150 and R151: an end request ends
the RUNNING segment before the entry with END_COMMAND, whatever its mark; without one the departing mark that
completes the length ends it with LENGTH, a mark below the length or with length 0 only counts, and an entry
without a mark changes nothing. An end offers the last block, keeps the report, empties the former and raises
SEGMENT_FINISHED. R146 to R148: with no segment RUNNING the first LOADED slot in load order whose start
condition the entry meets (IMMEDIATE, AT_PERF with its mark, AT_SPLICE with its mark) starts with a fresh
report and raises SEGMENT_STARTED; with none, or with a segment RUNNING, nothing starts. Together: the mark that
completes a length ends the segment, and the other slot, LOADED with IMMEDIATE or AT_PERF, starts with that
entry as its first sample. -/
def Obligations.SegmentsStartEndAndHandOver : Prop :=
  (∀ (w : Work) (e : Entry) (y : Int),
    judge w e y = outputStep (startTest (endTest w e) e) e y ∧
    (w.lane.runningSlot = none → endTest w e = w) ∧
    (w.lane.runningSlot ≠ none → startTest w e = w) ∧
    ((∀ i ∈ w.lane.loadOrder, ∀ d, w.lane.slot i = .loaded d → ¬ d.Meets e) → startTest w e = w)) ∧
  (∀ (w w' : Work) (e : Entry) (i : SlotId) (d : Descriptor) (r : Report) (req : Bool) (m : Nat),
    w.lane.runningSlot = some i → w.lane.slot i = .running d r req m →
    w' = (if w.lane.run.former.block = [] then w
      else offerBlock w d w.lane.run.former.first w.lane.run.former.block) →
    (req = false → e.perfMark = false → endTest w e = w) ∧
    (req = false → e.perfMark = true → d.length = 0 ∨ m + 1 < d.length →
      endTest w e = { w with lane := w.lane.setSlot i (.running d r false (m + 1)) }) ∧
    ∃ r' : Report, r' = { r with blocksSent := r'.blocksSent, blocksDropped := r'.blocksDropped } ∧
      w'.lane.slot i = .running d r' req m ∧
      ∀ reason : EndReason,
        req = true ∧ reason = .endCommand ∨
          req = false ∧ e.perfMark = true ∧ 1 ≤ d.length ∧ d.length ≤ m + 1 ∧ reason = .length →
        endTest w e =
          { w' with
            lane := { w'.lane.setSlot i (.finished d r' reason) with
              latch := w'.lane.latch ||| (0x08 &&& w.lane.mask)
              run := { w'.lane.run with former := { nextPos := 0, first := 0, block := [] } } }
            trace := if reason = .length then .segmentLengthEnd :: w.trace else w.trace }) ∧
  (∀ (w : Work) (e : Entry) (pre post : List SlotId) (i : SlotId) (d : Descriptor),
    w.lane.runningSlot = none → w.lane.loadOrder = pre ++ i :: post →
    (∀ j ∈ pre, ∀ d', w.lane.slot j = .loaded d' → ¬ d'.Meets e) →
    w.lane.slot i = .loaded d → d.Meets e →
    ∃ r : Report,
      r = { firstPos := e.pos, samples := 0, blocksSent := 0, blocksDropped := 0
            repairedInterpolate := 0, repairedHalf := 0, long := 0, abandoned := 0, impulse := 0
            asymmetry := 0, sensor := 0, splice := 0, recordsDropped := 0, reportsDropped := 0
            perfMarks := 0, spurious := 0, outliers := 0, holdovers := 0, holdoverInstants := 0
            pairingErrors := 0, lostOutput := 0, maxFill := 0 } ∧
      startTest w e =
        { w with
          lane := { w.lane.setSlot i (.running d r false 0) with
            loadOrder := w.lane.loadOrder.filter (fun j => decide (j ≠ i))
            latch := w.lane.latch ||| (0x04 &&& w.lane.mask)
            run := { w.lane.run with former := { nextPos := 0, first := 0, block := [] } } } }) ∧
  ∀ (w : Work) (e : Entry) (y : Int) (i j : SlotId) (d d' : Descriptor) (r : Report) (m : Nat),
    i ≠ j → w.lane.slot i = .running d r false m → w.lane.slot j = .loaded d' →
    w.lane.loadOrder = [j] → 1 ≤ d.length → d.length ≤ m + 1 → e.perfMark = true →
    d'.start ≠ .atSplice →
    ∃ r₁ r₂ : Report,
      (judge w e y).lane.slot i = .finished d r₁ .length ∧
      (judge w e y).lane.slot j = .running d' r₂ false 0 ∧
      (judge w e y).lane.loadOrder = [] ∧
      r₁ = { r with blocksSent := r₁.blocksSent, blocksDropped := r₁.blocksDropped } ∧
      r₂.firstPos = e.pos ∧ r₂.samples = 1 ∧ r₂.lostOutput = (if e.lost = true then 1 else 0) ∧
      (judge w e y).lane.run.former.nextPos = 1 ∧
      (w.lane.mask &&& 0x0C = 0x0C → (judge w e y).lane.latch &&& 0x0C = 0x0C) ∧
      StepEvent.segmentLengthEnd ∈ (judge w e y).trace

/-- R53, R73, R118, R132 and R149, as the rows FLOOR_UPDATE, TEMPLATE_SWAP and SEGMENT_LENGTH_END: a matching
write-back that leaves the window one entry above LOOKAHEAD departs that entry, and the departure that
ends a floor run updates the floor, the one that completes a LINE or a SPROCKET cycle count swaps that
template, and the one whose mark completes a length ends the segment. That the three rows carry the
write-back and are its whole step is the model's choice (assumption 4). -/
def Obligations.DepartureEventsAtWriteBack : Prop :=
  ∀ (s : State) (b : BankId) (order : List BankId) (j : Job) (rs : List Int) (l : LaneId)
    (r : DefectRecord) (e : Entry) (es : List Entry),
    s.resetHeld = false → s.engine.finishOrder = b :: order →
    s.engine.banks[b] = .finished j rs → j.lane = l → s.lanes[l].matching j b = some r →
    s.lanes[l].run.ring.window = e :: es → e.link = none → inSpan r.start r.stop e.pos = false →
    (es.length : Int) = s.lanes[l].params.get .lookahead →
    (s.lanes[l].params.get .floorMode = 0 → s.lanes[l].run.hiss.runCount = 255 →
      ∃ t, exec (.floorUpdate .writeBack) s = .next t ∧ exec .writeBack s = .next t ∧
        t.lanes[l].run.hiss.runCount = 0 ∧ t.lanes[l].run.hiss.runMin = none ∧
        ∀ m : Int,
          m = (s.lanes[l].run.hiss.runMin.elim t.lanes[l].run.hiss.level
            fun m₀ => min m₀ t.lanes[l].run.hiss.level) →
          t.lanes[l].run.hiss.floor =
            if m < s.lanes[l].run.hiss.floor then max 1 m
            else s.lanes[l].run.hiss.floor +
              (m - s.lanes[l].run.hiss.floor) / 2 ^ (s.lanes[l].params.get .floorRise).toNat) ∧
    (s.lanes[l].params.get .lineMode = 0 → e.tl = 0 →
      s.lanes[l].params.get .swapCycles ≤ (s.lanes[l].line.cycles : Int) + 1 →
      ∃ t, exec (.templateSwap .writeBack) s = .next t ∧ exec .writeBack s = .next t ∧
        t.lanes[l].line.cycles = 0 ∧
        t.lanes[l].line.active = s.lanes[l].line.acc.map fun a =>
          max (-8388608) (min 8388607 ((a + 128) / 256))) ∧
    (s.lanes[l].params.get .sprocketMode = 0 → e.locked = true → e.perfMark = true →
      s.lanes[l].params.get .swapCycles ≤ (s.lanes[l].sprocket.cycles : Int) + 1 →
      ∃ t, exec (.templateSwap .writeBack) s = .next t ∧ exec .writeBack s = .next t ∧
        t.lanes[l].sprocket.cycles = 0 ∧
        t.lanes[l].sprocket.active = s.lanes[l].sprocket.acc.map fun a =>
          max (-8388608) (min 8388607 ((a + 128) / 256))) ∧
    ∀ (i : SlotId) (d : Descriptor) (q : Report) (m : Nat),
      s.lanes[l].runningSlot = some i → s.lanes[l].slot i = .running d q false m →
      e.perfMark = true → 1 ≤ d.length → d.length ≤ m + 1 →
      ∃ t, exec (.segmentLengthEnd .writeBack) s = .next t ∧ exec .writeBack s = .next t ∧
        ∃ q', t.lanes[l].slot i = .finished d q' .length ∧
          q' = { q with blocksSent := q'.blocksSent, blocksDropped := q'.blocksDropped }

/-! ### The Repair Engine -/

/-- R108, R109, R111, R112 and R113: a load serves the first eligible lane after the pointer, takes its oldest
QUEUED record, and fills the EMPTY bank, Bank 0 first: the job copies the lane as it stands, with its kind
and clean half, the record takes the same kind and clean half, its holding bank and its state, and the
pointer is the lane. R57: a context value is
the working value of the entry held at that position, or 0 where the ring holds none. That a load without
an EMPTY bank or an eligible lane changes nothing is the model's choice (assumption 3). -/
def Obligations.JobLoadServesNextLane : Prop :=
  (∀ s : State,
    ((s.engine.banks[0] ≠ .empty ∧ s.engine.banks[1] ≠ .empty) ∨
      ∀ l : LaneId, ∀ r ∈ s.lanes[l].run.queue.records, r.state ≠ .queued) →
    exec .jobLoad s = .next s) ∧
  (∀ (g : Ring) (first : Pos) (n i : Nat),
    (g.context first n).length = n ∧
    (i < n → (∀ e ∈ g.tail ++ g.window, e.pos ≠ first + BitVec.ofNat 32 i) →
      (g.context first n)[i]? = some 0) ∧
    ∀ (pre post : List Entry) (e : Entry), i < n → g.tail ++ g.window = pre ++ e :: post →
      e.pos = first + BitVec.ofNat 32 i → (∀ f ∈ pre, f.pos ≠ e.pos) →
      (g.context first n)[i]? = some e.w) ∧
  ∀ (s : State) (b : BankId) (l : LaneId) (pre post : List DefectRecord) (r r' : DefectRecord)
    (half : Bool) (j : Job),
    s.resetHeld = false → s.engine.banks[b] = .empty → (b = 1 → s.engine.banks[0] ≠ .empty) →
    s.lanes[l].run.queue.records = pre ++ r :: post → r.state = .queued →
    (∀ q ∈ pre, q.state ≠ .queued) → (∀ q ∈ pre ++ post, q.id ≠ r.id) →
    (∀ m : LaneId, (m - s.engine.pointer - 1).val < (l - s.engine.pointer - 1).val →
      ∀ q ∈ s.lanes[m].run.queue.records, q.state ≠ .queued) →
    half = decide (s.lanes[l].params.get .railMode = 1 ∧ s.lanes[l].params.get .halfRepair = 1 ∧
      r.causes.asymmetry = true ∧ r.causes.sensor = false ∧ r.causes.splice = false) →
    r' = { r with
            kind := some (if half = true then .half else .interpolate)
            cleanHalf := if half = true then some (if r.sumA ≤ r.sumB then .a else .b) else none
            holding := some b
            state := if s.engine.banks[1 - b].isRunning = true then .loaded else .inRepair } →
    j = { lane := l, runNumber := s.lanes[l].runNumber, recordId := r.id
          gap := (r.stop - r.start).toNat + 1
          work :=
            if half = true then
              .half (if r.sumA ≤ r.sumB then .a else .b) ((s.lanes[l].run.ring.window.filter fun e : Entry =>
                  decide ((e.pos - r.start).toNat ≤ (r.stop - r.start).toNat)).map fun e =>
                (e.x, e.w,
                  (e.halves.map fun v => if r.sumA ≤ r.sumB then v.a else v.b).getD 0))
            else
              .interpolate (s.lanes[l].run.ring.context (r.start - 8) 8)
                (s.lanes[l].run.ring.context (r.stop + 1) 8) s.lanes[l].predictor } →
    exec .jobLoad s = .next
      { s.withLane l
          { s.lanes[l] with
            run := { s.lanes[l].run with
              queue := { s.lanes[l].run.queue with records := pre ++ r' :: post } } } with
        engine := { s.engine with
          banks := s.engine.banks.set b.val
            (if s.engine.banks[1 - b].isRunning = true then .loaded j else .running j) b.isLt
          pointer := l } }

/-- R114 and R115: completion makes the RUNNING bank FINISHED with its results; a LOADED other bank becomes
RUNNING in the same event, and the LOADED record whose job it holds becomes IN_REPAIR. That nothing
happens without a RUNNING bank is the model's choice (assumption 3). -/
def Obligations.JobCompletionFinishesBank : Prop :=
  (∀ s : State, s.engine.banks[0].isRunning = false → s.engine.banks[1].isRunning = false →
    exec .jobCompletion s = .next s) ∧
  ∀ (s : State) (b : BankId) (j : Job), s.resetHeld = false → s.engine.banks[b] = .running j →
    s.engine.banks[1 - b].isRunning = false →
    (s.engine.banks[1 - b].isLoaded = false →
      exec .jobCompletion s = .next
        { s with
          engine := { s.engine with
            banks := s.engine.banks.set b.val (.finished j j.results) b.isLt
            finishOrder := s.engine.finishOrder ++ [b] } }) ∧
    ∀ (j' : Job) (l : LaneId), s.engine.banks[1 - b] = .loaded j' → j'.lane = l →
      (∀ (pre post : List DefectRecord) (r : DefectRecord),
        s.lanes[l].run.queue.records = pre ++ r :: post → r.id = j'.recordId →
        (∀ q ∈ pre ++ post, q.id ≠ r.id) → s.lanes[l].runNumber = j'.runNumber →
        r.holding = some (1 - b) → r.state = .loaded →
        exec .jobCompletion s = .next
          { s.withLane l
              { s.lanes[l] with
                run := { s.lanes[l].run with
                  queue := { s.lanes[l].run.queue with
                    records := pre ++ { r with state := .inRepair } :: post } } } with
            engine := { s.engine with
              banks := (s.engine.banks.set b.val (.finished j j.results) b.isLt).set (1 - b).val
                (.running j') (1 - b).isLt
              finishOrder := s.engine.finishOrder ++ [b] } }) ∧
      (s.lanes[l].runNumber ≠ j'.runNumber ∨
        (∀ r ∈ s.lanes[l].run.queue.records, r.id = j'.recordId → r.state ≠ .loaded) →
        exec .jobCompletion s = .next
          { s with
            engine := { s.engine with
              banks := (s.engine.banks.set b.val (.finished j j.results) b.isLt).set (1 - b).val
                (.running j') (1 - b).isLt
              finishOrder := s.engine.finishOrder ++ [b] } })

/-- R117, R118 and R119: the bank that completed first is written back (of two FINISHED banks the model's
reading of R117 against R127, assumption 15) and becomes EMPTY. A job that does not match writes nothing.
One that matches writes its results into the span's entries, flags them REPAIRED and makes the record
REPAIRED without a holding bank, and the departure test follows; while the window holds no more than
LOOKAHEAD entries it changes nothing more. That nothing happens without a FINISHED bank is the model's
choice (assumption 3). -/
def Obligations.WriteBackMatchesOrDiscards : Prop :=
  (∀ s : State, s.engine.finishOrder = [] → exec .writeBack s = .next s) ∧
  ∀ (s : State) (b : BankId) (order : List BankId) (j : Job) (rs : List Int) (l : LaneId)
    (e' : Engine),
    s.resetHeld = false → s.engine.finishOrder = b :: order →
    s.engine.banks[b] = .finished j rs → j.lane = l →
    e' = { s.engine with banks := s.engine.banks.set b.val .empty b.isLt, finishOrder := order } →
    (s.lanes[l].runNumber ≠ j.runNumber ∨
      (∀ r ∈ s.lanes[l].run.queue.records, r.id = j.recordId →
        r.state ≠ .inRepair ∨ r.holding ≠ some b) →
      exec .writeBack s = .next { s with engine := e' }) ∧
    ∀ (pre post : List DefectRecord) (r : DefectRecord) (x : Lane),
      s.lanes[l].runNumber = j.runNumber → s.lanes[l].run.queue.records = pre ++ r :: post →
      r.id = j.recordId → (∀ q ∈ pre ++ post, q.id ≠ r.id) → r.state = .inRepair →
      r.holding = some b →
      x = { s.lanes[l] with
            run := { s.lanes[l].run with
              ring := { s.lanes[l].run.ring with
                window := s.lanes[l].run.ring.window.map fun e : Entry =>
                  if (e.pos - r.start).toNat ≤ (r.stop - r.start).toNat then
                    { e with w := rs.getD (e.pos - r.start).toNat 0, repaired := true } else e }
              queue := { s.lanes[l].run.queue with
                records := pre ++ { r with state := .repaired, holding := none } :: post } } } →
      exec .writeBack s = .next
        { s.putWork (departureTest { s.work l with lane := x }) with engine := e' } ∧
      OnlyLane l { s with engine := e' }
        { s.putWork (departureTest { s.work l with lane := x }) with engine := e' } ∧
      SameConfiguration s.lanes[l] (departureTest { s.work l with lane := x }).lane ∧
      (departureTest { s.work l with lane := x }).lane.front = s.lanes[l].front ∧
      ((s.lanes[l].run.ring.window.length : Int) ≤ s.lanes[l].params.get .lookahead →
        exec .writeBack s = .next { s.withLane l x with engine := e' })

/-- R120 to R124: an INTERPOLATE job's results blend the forward and the backward prediction, each value of
which is predicted from the eight before it; a HALF job's are the clean half with the same hum removed;
and every result lies in the 24-bit range. -/
def Obligations.RepairArithmetic : Prop :=
  (∀ (a left right : List Int) (g : Nat), a.length = 8 → left.length = 8 → right.length = 8 →
    (forward a left g).length = g ∧ (backward a right g).length = g ∧
    (∀ k, k < g → (left ++ forward a left g)[8 + k]? =
      some (max (-8388608) (min 8388607
        ((((List.range 8).map fun i : Nat =>
            a.getD i 0 * (left ++ forward a left g).getD (7 + k - i) 0).sum + 2048) / 4096)))) ∧
    (∀ k, k < g → (backward a right g ++ right)[k]? =
      some (max (-8388608) (min 8388607
        ((((List.range 8).map fun i : Nat =>
            a.getD i 0 * (backward a right g ++ right).getD (k + 1 + i) 0).sum + 2048) / 4096)))) ∧
    ∀ j : Job, j.gap = g → j.work = .interpolate left right a →
      j.results.length = g ∧
      ∀ k, k < g → j.results[k]? =
        some (max (-8388608) (min 8388607
          (((((g : Int) - k) * (forward a left g).getD k 0 + ((k : Int) + 1) *
              (backward a right g).getD k 0) *
            ((2 * 65536 + ((g : Int) + 1)) / (2 * ((g : Int) + 1))) + 32768) / 65536)))) ∧
  (∀ (j : Job) (h : Half) (span : List (Int × Int × Int)), j.work = .half h span →
    j.results = span.map fun v => max (-8388608) (min 8388607 (v.2.1 + v.2.2 - v.1))) ∧
  ∀ (j : Job), ∀ y ∈ j.results, In24 y

/-- R114 and R117: no step leaves both banks RUNNING, a bank LOADED behind one that is not RUNNING, or an
order of completion that is not the list of the FINISHED banks. -/
def Obligations.BanksStayLawful : Prop :=
  ∀ s t : State, s.engine.Ok → step s = .next t → t.engine.Ok

/-- R113 and R114: while the records of each lane are in order, no step leaves a LOADED or an IN_REPAIR record
without the bank it names, LOADED with its job or RUNNING or FINISHED with it. -/
def Obligations.BanksHoldTheirRecords : Prop :=
  ∀ s t : State, s.EachLane Lane.ParamsOk → s.EachLane Lane.RingOk → s.EachLane Lane.QueueOk →
    s.EachLane Lane.RecordsOk → s.RecordsHeld → step s = .next t → t.RecordsHeld

/-! ### The invariants at reset -/

/-- Every invariant that a statement above carries through a step holds after device reset. -/
def Obligations.InvariantsHoldAtReset : Prop :=
  State.reset.link.Ok ∧ State.reset.engine.Ok ∧ State.reset.RecordsHeld ∧
    State.reset.EachLane fun l =>
      l.ParamsOk ∧ l.TablesOk ∧ l.TrackerOk ∧ l.RingOk ∧ l.QueueOk ∧ l.RecordsOk ∧ l.HissOk ∧ l.SlotsOk
end

