-- ==== Sys2Proof/Laws/State.lean ====
section
/-! SUPPORT. One lemma for each field after each update of the state's records. -/

namespace Sys2Proof.Machine


/-! ### A lane at work -/

@[simp] theorem Work.setLane_lane (w : Work) (l : Lane) :
    (w.setLane l).lane = l := rfl

@[simp] theorem Work.setLane_id (w : Work) (l : Lane) :
    (w.setLane l).id = w.id := rfl

@[simp] theorem Work.setLane_outbound (w : Work) (l : Lane) :
    (w.setLane l).outbound = w.outbound := rfl

@[simp] theorem Work.setLane_streamDrops (w : Work) (l : Lane) :
    (w.setLane l).streamDrops = w.streamDrops := rfl

@[simp] theorem Work.setLane_trace (w : Work) (l : Lane) :
    (w.setLane l).trace = w.trace := rfl

@[simp] theorem Work.setRun_lane (w : Work) (r : Run) :
    (w.setRun r).lane = { w.lane with run := r } := rfl

@[simp] theorem Work.setRun_id (w : Work) (r : Run) :
    (w.setRun r).id = w.id := rfl

@[simp] theorem Work.setRun_outbound (w : Work) (r : Run) :
    (w.setRun r).outbound = w.outbound := rfl

@[simp] theorem Work.setRun_streamDrops (w : Work) (r : Run) :
    (w.setRun r).streamDrops = w.streamDrops := rfl

@[simp] theorem Work.setRun_trace (w : Work) (r : Run) :
    (w.setRun r).trace = w.trace := rfl

@[simp] theorem Work.setFront_lane (w : Work) (f : FrontEnd) :
    (w.setFront f).lane = { w.lane with front := f } := rfl

@[simp] theorem Work.setFront_id (w : Work) (f : FrontEnd) :
    (w.setFront f).id = w.id := rfl

@[simp] theorem Work.setFront_outbound (w : Work) (f : FrontEnd) :
    (w.setFront f).outbound = w.outbound := rfl

@[simp] theorem Work.setFront_streamDrops (w : Work) (f : FrontEnd) :
    (w.setFront f).streamDrops = w.streamDrops := rfl

@[simp] theorem Work.setFront_trace (w : Work) (f : FrontEnd) :
    (w.setFront f).trace = w.trace := rfl

@[simp] theorem Work.note_trace (w : Work) (e : StepEvent) :
    (w.note e).trace = e :: w.trace := rfl

@[simp] theorem Work.note_id (w : Work) (e : StepEvent) :
    (w.note e).id = w.id := rfl

@[simp] theorem Work.note_lane (w : Work) (e : StepEvent) :
    (w.note e).lane = w.lane := rfl

@[simp] theorem Work.note_outbound (w : Work) (e : StepEvent) :
    (w.note e).outbound = w.outbound := rfl

@[simp] theorem Work.note_streamDrops (w : Work) (e : StepEvent) :
    (w.note e).streamDrops = w.streamDrops := rfl

@[simp] theorem Work.noteIf_id (w : Work) (b : Bool) (e : StepEvent) :
    (w.noteIf b e).id = w.id := by
  cases b <;> rfl

@[simp] theorem Work.noteIf_lane (w : Work) (b : Bool) (e : StepEvent) :
    (w.noteIf b e).lane = w.lane := by
  cases b <;> rfl

@[simp] theorem Work.noteIf_outbound (w : Work) (b : Bool) (e : StepEvent) :
    (w.noteIf b e).outbound = w.outbound := by
  cases b <;> rfl

@[simp] theorem Work.noteIf_streamDrops (w : Work) (b : Bool) (e : StepEvent) :
    (w.noteIf b e).streamDrops = w.streamDrops := by
  cases b <;> rfl

@[simp] theorem Work.noteIf_trace (w : Work) (b : Bool) (e : StepEvent) :
    (w.noteIf b e).trace = if b = true then e :: w.trace else w.trace := by
  cases b <;> rfl

@[simp] theorem Work.raise_lane (w : Work) (c : Condition) :
    (w.raise c).lane = w.lane.raise c := rfl

@[simp] theorem Work.raise_id (w : Work) (c : Condition) :
    (w.raise c).id = w.id := rfl

@[simp] theorem Work.raise_outbound (w : Work) (c : Condition) :
    (w.raise c).outbound = w.outbound := rfl

@[simp] theorem Work.raise_streamDrops (w : Work) (c : Condition) :
    (w.raise c).streamDrops = w.streamDrops := rfl

@[simp] theorem Work.raise_trace (w : Work) (c : Condition) :
    (w.raise c).trace = w.trace := rfl

@[simp] theorem Work.count_lane (w : Work) (f : Report → Report) :
    (w.count f).lane = w.lane.count f := rfl

@[simp] theorem Work.count_id (w : Work) (f : Report → Report) :
    (w.count f).id = w.id := rfl

@[simp] theorem Work.count_outbound (w : Work) (f : Report → Report) :
    (w.count f).outbound = w.outbound := rfl

@[simp] theorem Work.count_streamDrops (w : Work) (f : Report → Report) :
    (w.count f).streamDrops = w.streamDrops := rfl

@[simp] theorem Work.count_trace (w : Work) (f : Report → Report) :
    (w.count f).trace = w.trace := rfl

@[simp] theorem Work.enqueue_outbound (w : Work) (f : Frame) :
    (w.enqueue f).outbound = w.outbound ++ [f] := rfl

@[simp] theorem Work.enqueue_id (w : Work) (f : Frame) :
    (w.enqueue f).id = w.id := rfl

@[simp] theorem Work.enqueue_lane (w : Work) (f : Frame) :
    (w.enqueue f).lane = w.lane := rfl

@[simp] theorem Work.enqueue_streamDrops (w : Work) (f : Frame) :
    (w.enqueue f).streamDrops = w.streamDrops := rfl

@[simp] theorem Work.enqueue_trace (w : Work) (f : Frame) :
    (w.enqueue f).trace = w.trace := rfl


/-! ### A lane's latch, slots and counts -/

@[simp] theorem Lane.raise_latch (l : Lane) (c : Condition) :
    (l.raise c).latch = l.latch ||| (c.bit &&& l.mask) := rfl

@[simp] theorem Lane.raise_state (l : Lane) (c : Condition) :
    (l.raise c).state = l.state := rfl

@[simp] theorem Lane.raise_runNumber (l : Lane) (c : Condition) :
    (l.raise c).runNumber = l.runNumber := rfl

@[simp] theorem Lane.raise_params (l : Lane) (c : Condition) :
    (l.raise c).params = l.params := rfl

@[simp] theorem Lane.raise_front (l : Lane) (c : Condition) :
    (l.raise c).front = l.front := rfl

@[simp] theorem Lane.raise_run (l : Lane) (c : Condition) :
    (l.raise c).run = l.run := rfl

@[simp] theorem Lane.raise_sprocket (l : Lane) (c : Condition) :
    (l.raise c).sprocket = l.sprocket := rfl

@[simp] theorem Lane.raise_line (l : Lane) (c : Condition) :
    (l.raise c).line = l.line := rfl

@[simp] theorem Lane.raise_predictor (l : Lane) (c : Condition) :
    (l.raise c).predictor = l.predictor := rfl

@[simp] theorem Lane.raise_gainTable (l : Lane) (c : Condition) :
    (l.raise c).gainTable = l.gainTable := rfl

@[simp] theorem Lane.raise_slotA (l : Lane) (c : Condition) :
    (l.raise c).slotA = l.slotA := rfl

@[simp] theorem Lane.raise_slotB (l : Lane) (c : Condition) :
    (l.raise c).slotB = l.slotB := rfl

@[simp] theorem Lane.raise_loadOrder (l : Lane) (c : Condition) :
    (l.raise c).loadOrder = l.loadOrder := rfl

@[simp] theorem Lane.raise_mask (l : Lane) (c : Condition) :
    (l.raise c).mask = l.mask := rfl

@[simp] theorem Lane.setSlot_state (l : Lane) (i : SlotId) (x : Slot) :
    (l.setSlot i x).state = l.state := by
  cases i <;> rfl

@[simp] theorem Lane.setSlot_runNumber (l : Lane) (i : SlotId) (x : Slot) :
    (l.setSlot i x).runNumber = l.runNumber := by
  cases i <;> rfl

@[simp] theorem Lane.setSlot_params (l : Lane) (i : SlotId) (x : Slot) :
    (l.setSlot i x).params = l.params := by
  cases i <;> rfl

@[simp] theorem Lane.setSlot_front (l : Lane) (i : SlotId) (x : Slot) :
    (l.setSlot i x).front = l.front := by
  cases i <;> rfl

@[simp] theorem Lane.setSlot_run (l : Lane) (i : SlotId) (x : Slot) :
    (l.setSlot i x).run = l.run := by
  cases i <;> rfl

@[simp] theorem Lane.setSlot_sprocket (l : Lane) (i : SlotId) (x : Slot) :
    (l.setSlot i x).sprocket = l.sprocket := by
  cases i <;> rfl

@[simp] theorem Lane.setSlot_line (l : Lane) (i : SlotId) (x : Slot) :
    (l.setSlot i x).line = l.line := by
  cases i <;> rfl

@[simp] theorem Lane.setSlot_predictor (l : Lane) (i : SlotId) (x : Slot) :
    (l.setSlot i x).predictor = l.predictor := by
  cases i <;> rfl

@[simp] theorem Lane.setSlot_gainTable (l : Lane) (i : SlotId) (x : Slot) :
    (l.setSlot i x).gainTable = l.gainTable := by
  cases i <;> rfl

@[simp] theorem Lane.setSlot_loadOrder (l : Lane) (i : SlotId) (x : Slot) :
    (l.setSlot i x).loadOrder = l.loadOrder := by
  cases i <;> rfl

@[simp] theorem Lane.setSlot_mask (l : Lane) (i : SlotId) (x : Slot) :
    (l.setSlot i x).mask = l.mask := by
  cases i <;> rfl

@[simp] theorem Lane.setSlot_latch (l : Lane) (i : SlotId) (x : Slot) :
    (l.setSlot i x).latch = l.latch := by
  cases i <;> rfl

@[simp] theorem Lane.count_state (l : Lane) (f : Report → Report) :
    (l.count f).state = l.state := by
  unfold Lane.count; split <;> simp

@[simp] theorem Lane.count_runNumber (l : Lane) (f : Report → Report) :
    (l.count f).runNumber = l.runNumber := by
  unfold Lane.count; split <;> simp

@[simp] theorem Lane.count_params (l : Lane) (f : Report → Report) :
    (l.count f).params = l.params := by
  unfold Lane.count; split <;> simp

@[simp] theorem Lane.count_front (l : Lane) (f : Report → Report) :
    (l.count f).front = l.front := by
  unfold Lane.count; split <;> simp

@[simp] theorem Lane.count_run (l : Lane) (f : Report → Report) :
    (l.count f).run = l.run := by
  unfold Lane.count; split <;> simp

@[simp] theorem Lane.count_sprocket (l : Lane) (f : Report → Report) :
    (l.count f).sprocket = l.sprocket := by
  unfold Lane.count; split <;> simp

@[simp] theorem Lane.count_line (l : Lane) (f : Report → Report) :
    (l.count f).line = l.line := by
  unfold Lane.count; split <;> simp

@[simp] theorem Lane.count_predictor (l : Lane) (f : Report → Report) :
    (l.count f).predictor = l.predictor := by
  unfold Lane.count; split <;> simp

@[simp] theorem Lane.count_gainTable (l : Lane) (f : Report → Report) :
    (l.count f).gainTable = l.gainTable := by
  unfold Lane.count; split <;> simp

@[simp] theorem Lane.count_loadOrder (l : Lane) (f : Report → Report) :
    (l.count f).loadOrder = l.loadOrder := by
  unfold Lane.count; split <;> simp

@[simp] theorem Lane.count_mask (l : Lane) (f : Report → Report) :
    (l.count f).mask = l.mask := by
  unfold Lane.count; split <;> simp

@[simp] theorem Lane.count_latch (l : Lane) (f : Report → Report) :
    (l.count f).latch = l.latch := by
  unfold Lane.count; split <;> simp

@[simp] theorem Lane.slot_setSlot_same (l : Lane) (i : SlotId) (x : Slot) :
    (l.setSlot i x).slot i = x := by
  cases i <;> rfl

theorem Lane.slot_setSlot_other (l : Lane) (i j : SlotId) (x : Slot) (h : j ≠ i) :
    (l.setSlot i x).slot j = l.slot j := by
  cases i <;> cases j <;> first | rfl | exact absurd rfl h

/-- A count changes the reports of RUNNING slots alone, and no slot's state. -/
@[simp] theorem Slot.count_isRunning (f : Report → Report) (x : Slot) :
    (x.count f).isRunning = x.isRunning := by
  cases x <;> rfl

@[simp] theorem Slot.count_isLoaded (f : Report → Report) (x : Slot) :
    (x.count f).isLoaded = x.isLoaded := by
  cases x <;> rfl

/-- Each slot after a count: its report counted where it is the RUNNING one, and otherwise as it was. -/
theorem Lane.slot_count (l : Lane) (f : Report → Report) (i : SlotId) :
    (l.count f).slot i = if l.runningSlot = some i then (l.slot i).count f else l.slot i := by
  unfold Lane.count
  cases h : l.runningSlot with
  | none => simp
  | some j =>
    by_cases hij : i = j
    · subst hij; simp
    · simp [Lane.slot_setSlot_other _ _ _ _ hij, Ne.symm hij]


/-! ### The state -/

@[simp] theorem State.setLink_lanes (s : State) (x : Link) :
    (s.setLink x).lanes = s.lanes := rfl

@[simp] theorem State.setLink_engine (s : State) (x : Link) :
    (s.setLink x).engine = s.engine := rfl

@[simp] theorem State.setLink_link (s : State) (x : Link) :
    (s.setLink x).link = x := rfl

@[simp] theorem State.setLink_resetHeld (s : State) (x : Link) :
    (s.setLink x).resetHeld = s.resetHeld := rfl

@[simp] theorem State.setLink_pending (s : State) (x : Link) :
    (s.setLink x).pending = s.pending := rfl

@[simp] theorem State.setEngine_lanes (s : State) (x : Engine) :
    (s.setEngine x).lanes = s.lanes := rfl

@[simp] theorem State.setEngine_engine (s : State) (x : Engine) :
    (s.setEngine x).engine = x := rfl

@[simp] theorem State.setEngine_link (s : State) (x : Engine) :
    (s.setEngine x).link = s.link := rfl

@[simp] theorem State.setEngine_resetHeld (s : State) (x : Engine) :
    (s.setEngine x).resetHeld = s.resetHeld := rfl

@[simp] theorem State.setEngine_pending (s : State) (x : Engine) :
    (s.setEngine x).pending = s.pending := rfl

@[simp] theorem State.setLane_engine (s : State) (l : LaneId) (x : Lane) :
    (s.setLane l x).engine = s.engine := rfl

@[simp] theorem State.setLane_link (s : State) (l : LaneId) (x : Lane) :
    (s.setLane l x).link = s.link := rfl

@[simp] theorem State.setLane_resetHeld (s : State) (l : LaneId) (x : Lane) :
    (s.setLane l x).resetHeld = s.resetHeld := rfl

@[simp] theorem State.setLane_pending (s : State) (l : LaneId) (x : Lane) :
    (s.setLane l x).pending = s.pending := rfl

@[simp] theorem State.lanes_setLane_same (s : State) (l : LaneId) (x : Lane) :
    (s.setLane l x).lanes[l] = x := by
  simp [State.setLane]

theorem State.lanes_setLane_other (s : State) (l i : LaneId) (x : Lane) (h : i ≠ l) :
    (s.setLane l x).lanes[i] = s.lanes[i] := by
  have : l.val ≠ i.val := fun e => h (Fin.ext e.symm)
  simp [State.setLane, this]

@[simp] theorem State.work_id (s : State) (l : LaneId) :
    (s.work l).id = l := rfl

@[simp] theorem State.work_lane (s : State) (l : LaneId) :
    (s.work l).lane = s.lanes[l] := rfl

@[simp] theorem State.work_outbound (s : State) (l : LaneId) :
    (s.work l).outbound = s.link.outbound := rfl

@[simp] theorem State.work_streamDrops (s : State) (l : LaneId) :
    (s.work l).streamDrops = s.link.stats.streamDrops := rfl

@[simp] theorem State.work_trace (s : State) (l : LaneId) :
    (s.work l).trace = [] := rfl

@[simp] theorem State.putWork_engine (s : State) (w : Work) :
    (s.putWork w).engine = s.engine := rfl

@[simp] theorem State.putWork_resetHeld (s : State) (w : Work) :
    (s.putWork w).resetHeld = s.resetHeld := rfl

@[simp] theorem State.putWork_pending (s : State) (w : Work) :
    (s.putWork w).pending = s.pending := rfl

@[simp] theorem State.putWork_lanes (s : State) (w : Work) :
    (s.putWork w).lanes = s.lanes.set w.id.val w.lane w.id.isLt := rfl

@[simp] theorem State.putWork_link (s : State) (w : Work) :
    (s.putWork w).link =
      { s.link with
        outbound := w.outbound
        stats := { s.link.stats with streamDrops := w.streamDrops } } := rfl

@[simp] theorem State.reply_lanes (s : State) (r : Frame) :
    (s.reply r).lanes = s.lanes := rfl

@[simp] theorem State.reply_engine (s : State) (r : Frame) :
    (s.reply r).engine = s.engine := rfl

@[simp] theorem State.reply_resetHeld (s : State) (r : Frame) :
    (s.reply r).resetHeld = s.resetHeld := rfl

@[simp] theorem State.reply_pending (s : State) (r : Frame) :
    (s.reply r).pending = s.pending := rfl

@[simp] theorem State.reply_link (s : State) (r : Frame) :
    (s.reply r).link =
      { s.link with inbound := s.link.inbound.tail, waiting := some r } := rfl


/-! ### Parameters -/

theorem Param.index_injective {p q : Param} (h : p.index = q.index) : p = q := by
  revert h; cases p <;> cases q <;> decide

@[simp] theorem Params.get_put_same (ps : Params) (p : Param) (v : Int) : (ps.put p v).get p = v := by
  simp [Params.get, Params.put]

theorem Params.get_put_other (ps : Params) (p q : Param) (v : Int) (h : q ≠ p) :
    (ps.put p v).get q = ps.get q := by
  have : p.index.val ≠ q.index.val := fun e => h (Param.index_injective (Fin.ext e.symm))
  simp [Params.get, Params.put, this]

end Sys2Proof.Machine
end

