-- ==== Sys2Proof/Laws/Pipeline.lean ====
section
/-! SUPPORT. What every block of a lane keeps, from the smallest operation up to a whole word: the
configuration, the events already come about, the conditions already latched and the frames already
queued; and which of the blocks leave the front end, the tracker and the resampler alone. -/

namespace Sys2Proof.Machine

/-! ### The two frames -/

/-- From w to w' the lane keeps its configuration, and trace, latch and outbound queue only grow. -/
structure Work.Keeps (w w' : Work) : Prop where
  id : w'.id = w.id
  config : SameConfiguration w.lane w'.lane
  trace : ∀ e ∈ w.trace, e ∈ w'.trace
  latch : w.lane.latch &&& w'.lane.latch = w.lane.latch
  outbound : w.outbound <+: w'.outbound

/-- From w to w' the blocks ahead of the ring keep their state, and the front end all but the hold value. -/
structure Work.KeepsInput (w w' : Work) : Prop where
  front : { w'.lane.front with holdValue := w.lane.front.holdValue } = w.lane.front
  generator : w'.lane.run.generator = w.lane.run.generator
  tracker : w'.lane.run.tracker = w.lane.run.tracker
  resampler : w'.lane.run.resampler = w.lane.run.resampler

theorem Work.Keeps.refl (w : Work) : w.Keeps w :=
  ⟨rfl, ⟨rfl, rfl, rfl, rfl, rfl, rfl⟩, fun _ h => h, by simp, List.prefix_refl _⟩

theorem Work.Keeps.trans {a b c : Work} (h : a.Keeps b) (k : b.Keeps c) : a.Keeps c where
  id := k.id.trans h.id
  config := by
    obtain ⟨h1, h2, h3, h4, h5, h6⟩ := h.config
    obtain ⟨k1, k2, k3, k4, k5, k6⟩ := k.config
    exact ⟨k1.trans h1, k2.trans h2, k3.trans h3, k4.trans h4, k5.trans h5, k6.trans h6⟩
  trace e he := k.trace e (h.trace e he)
  latch := by
    conv_lhs => rw [← h.latch]
    rw [BitVec.and_assoc, k.latch, h.latch]
  outbound := h.outbound.trans k.outbound

theorem Work.KeepsInput.refl (w : Work) : w.KeepsInput w := ⟨rfl, rfl, rfl, rfl⟩

theorem Work.KeepsInput.trans {a b c : Work} (h : a.KeepsInput b) (k : b.KeepsInput c) :
    a.KeepsInput c where
  front := by
    have h1 := h.front; have k1 := k.front
    rw [← k1] at h1
    exact h1
  generator := k.generator.trans h.generator
  tracker := k.tracker.trans h.tracker
  resampler := k.resampler.trans h.resampler

/-! ### The smallest operations -/

theorem keeps_setRun (w : Work) (r : Run) : w.Keeps (w.setRun r) :=
  ⟨rfl, ⟨rfl, rfl, rfl, rfl, rfl, rfl⟩, fun _ h => h, by simp, List.prefix_refl _⟩

theorem keeps_setFront (w : Work) (f : FrontEnd) : w.Keeps (w.setFront f) :=
  ⟨rfl, ⟨rfl, rfl, rfl, rfl, rfl, rfl⟩, fun _ h => h, by simp, List.prefix_refl _⟩

theorem keeps_noteIf (w : Work) (b : Bool) (e : StepEvent) : w.Keeps (w.noteIf b e) :=
  ⟨by simp, by simp [SameConfiguration], by cases b <;> simp +contextual, by simp, by simp⟩

theorem keeps_note (w : Work) (e : StepEvent) : w.Keeps (w.note e) := keeps_noteIf w true e

theorem keeps_raise (w : Work) (c : Condition) : w.Keeps (w.raise c) :=
  ⟨rfl, ⟨rfl, rfl, rfl, rfl, rfl, rfl⟩, fun _ h => h,
    by simp [BitVec.and_or_distrib_left]; ext i; simp; tauto, List.prefix_refl _⟩

theorem keeps_count (w : Work) (f : Report → Report) : w.Keeps (w.count f) :=
  ⟨rfl, by simp [SameConfiguration], fun _ h => h, by simp, List.prefix_refl _⟩

theorem keeps_setSlot (w : Work) (i : SlotId) (x : Slot) : w.Keeps (w.setLane (w.lane.setSlot i x)) :=
  ⟨rfl, by simp [SameConfiguration], fun _ h => h, by simp, List.prefix_refl _⟩

theorem keepsInput_setRun {w : Work} {r : Run} (hg : r.generator = w.lane.run.generator)
    (ht : r.tracker = w.lane.run.tracker) (hr : r.resampler = w.lane.run.resampler) :
    w.KeepsInput (w.setRun r) := ⟨rfl, hg, ht, hr⟩

theorem keepsInput_of_lane {w w' : Work} (hf : w'.lane.front = w.lane.front)
    (hr : w'.lane.run = w.lane.run) : w.KeepsInput w' := by
  constructor <;> simp [hf, hr]

theorem keepsInput_noteIf (w : Work) (b : Bool) (e : StepEvent) : w.KeepsInput (w.noteIf b e) :=
  keepsInput_of_lane (by simp) (by simp)

theorem keepsInput_note (w : Work) (e : StepEvent) : w.KeepsInput (w.note e) :=
  keepsInput_of_lane rfl rfl

theorem keepsInput_raise (w : Work) (c : Condition) : w.KeepsInput (w.raise c) :=
  keepsInput_of_lane rfl rfl

theorem keepsInput_count (w : Work) (f : Report → Report) : w.KeepsInput (w.count f) :=
  keepsInput_of_lane (by simp) (by simp)

theorem keepsInput_setSlot (w : Work) (i : SlotId) (x : Slot) :
    w.KeepsInput (w.setLane (w.lane.setSlot i x)) :=
  keepsInput_of_lane (by simp) (by simp)

/-! ### Both at once, for the blocks behind the resampler -/

/-- Both frames. -/
def Work.KeepsBoth (w w' : Work) : Prop := w.Keeps w' ∧ w.KeepsInput w'

theorem Work.KeepsBoth.refl (w : Work) : w.KeepsBoth w := ⟨.refl w, .refl w⟩

theorem Work.KeepsBoth.trans {a b c : Work} (h : a.KeepsBoth b) (k : b.KeepsBoth c) :
    a.KeepsBoth c := ⟨h.1.trans k.1, h.2.trans k.2⟩

theorem both_setRun {w : Work} {r : Run} (hg : r.generator = w.lane.run.generator := by rfl)
    (ht : r.tracker = w.lane.run.tracker := by rfl) (hr : r.resampler = w.lane.run.resampler := by rfl) :
    w.KeepsBoth (w.setRun r) := ⟨keeps_setRun w r, keepsInput_setRun hg ht hr⟩

theorem both_noteIf (w : Work) (b : Bool) (e : StepEvent) : w.KeepsBoth (w.noteIf b e) :=
  ⟨keeps_noteIf w b e, keepsInput_noteIf w b e⟩

theorem both_note (w : Work) (e : StepEvent) : w.KeepsBoth (w.note e) :=
  ⟨keeps_note w e, keepsInput_note w e⟩

theorem both_raise (w : Work) (c : Condition) : w.KeepsBoth (w.raise c) :=
  ⟨keeps_raise w c, keepsInput_raise w c⟩

theorem both_count (w : Work) (f : Report → Report) : w.KeepsBoth (w.count f) :=
  ⟨keeps_count w f, keepsInput_count w f⟩

theorem both_setSlot (w : Work) (i : SlotId) (x : Slot) :
    w.KeepsBoth (w.setLane (w.lane.setSlot i x)) :=
  ⟨keeps_setSlot w i x, keepsInput_setSlot w i x⟩

theorem both_enqueue (w : Work) (f : Frame) : w.KeepsBoth (w.enqueue f) :=
  ⟨⟨rfl, ⟨rfl, rfl, rfl, rfl, rfl, rfl⟩, fun _ h => h, by simp, List.prefix_append _ _⟩,
    keepsInput_of_lane rfl rfl⟩

theorem both_templates (w : Work) (s l : Template) :
    w.KeepsBoth (w.setLane { w.lane with sprocket := s, line := l }) :=
  ⟨⟨rfl, ⟨rfl, rfl, rfl, rfl, rfl, rfl⟩, fun _ h => h, by simp, List.prefix_refl _⟩,
    keepsInput_of_lane rfl rfl⟩

theorem both_loadOrder (w : Work) (o : List SlotId) :
    w.KeepsBoth (w.setLane { w.lane with loadOrder := o }) :=
  ⟨⟨rfl, ⟨rfl, rfl, rfl, rfl, rfl, rfl⟩, fun _ h => h, by simp, List.prefix_refl _⟩,
    keepsInput_of_lane rfl rfl⟩

theorem both_streamDrops (w : Work) (n : Nat) : w.KeepsBoth { w with streamDrops := n } :=
  ⟨⟨rfl, ⟨rfl, rfl, rfl, rfl, rfl, rfl⟩, fun _ h => h, by simp, List.prefix_refl _⟩,
    keepsInput_of_lane rfl rfl⟩

/-! ### Output and segments -/

theorem offerBlock_keeps (w : Work) (d : Descriptor) (p : Nat) (vs : List Int) :
    w.KeepsBoth (offerBlock w d p vs) := by
  unfold offerBlock
  dsimp only
  split
  · exact (both_enqueue _ _).trans (both_count _ _)
  · exact ((both_streamDrops w _).trans (both_count _ _)).trans (both_raise _ _)

theorem both_ite {a x y : Work} {c : Prop} [Decidable c] (hx : a.KeepsBoth x) (hy : a.KeepsBoth y) :
    a.KeepsBoth (if c then x else y) := by
  split <;> assumption

theorem outputSample_keeps (w : Work) (d : Descriptor) (e : Entry) (y : Int) :
    w.KeepsBoth (outputSample w d e y) := by
  unfold outputSample
  exact both_ite ((((both_setRun).trans (both_count _ _)).trans both_setRun).trans
    (offerBlock_keeps _ _ _ _)) ((both_setRun).trans (both_count _ _))

theorem endSegment_keeps (w : Work) (i : SlotId) (reason : EndReason) :
    w.KeepsBoth (endSegment w i reason) := by
  unfold endSegment
  split
  · dsimp only
    split
    · exact ((both_setSlot _ _ _).trans (both_setRun)).trans (both_raise _ _)
    · exact (((offerBlock_keeps _ _ _ _).trans (both_setSlot _ _ _)).trans
        (both_setRun)).trans (both_raise _ _)
  · exact .refl _

theorem startSegment_keeps (w : Work) (i : SlotId) (e : Entry) :
    w.KeepsBoth (startSegment w i e) := by
  unfold startSegment
  split
  · exact (((both_setSlot _ _ _).trans (both_loadOrder _ _)).trans (both_setRun)).trans
      (both_raise _ _)
  · exact .refl _

theorem endTest_keeps (w : Work) (e : Entry) : w.KeepsBoth (endTest w e) := by
  unfold endTest
  split
  · exact .refl _
  · split
    · split
      · exact endSegment_keeps _ _ _
      · split
        · split
          · exact (endSegment_keeps _ _ _).trans (both_note _ _)
          · exact both_setSlot _ _ _
        · exact .refl _
    · exact .refl _

theorem startTest_keeps (w : Work) (e : Entry) : w.KeepsBoth (startTest w e) := by
  unfold startTest
  split
  · exact startSegment_keeps _ _ _
  · exact .refl _

theorem outputStep_keeps (w : Work) (e : Entry) (y : Int) : w.KeepsBoth (outputStep w e y) := by
  unfold outputStep
  split
  · exact outputSample_keeps _ _ _ _
  · exact .refl _

theorem judge_keeps (w : Work) (e : Entry) (y : Int) : w.KeepsBoth (judge w e y) :=
  ((endTest_keeps w e).trans (startTest_keeps _ e)).trans (outputStep_keeps _ e y)

/-! ### Departures -/

theorem offerReport_keeps (w : Work) (g : BitVec 16) (r : DefectRecord) :
    w.KeepsBoth (offerReport w g r) := by
  unfold offerReport
  dsimp only
  split
  · exact both_enqueue _ _
  · exact (both_count _ _).trans (both_raise _ _)

theorem retire_keeps (w : Work) (d : Option Descriptor) (r : DefectRecord) :
    w.KeepsBoth (retire w d r) := by
  unfold retire
  dsimp only
  have h (w : Work) (q : DefectQueue) : w.KeepsBoth (w.setRun { w.lane.run with queue := q }) :=
    both_setRun
  split
  · split
    · exact ((both_count _ _).trans (offerReport_keeps _ _ _)).trans (h _ _)
    · exact (both_count _ _).trans (h _ _)
  · exact (both_count _ _).trans (h _ _)

theorem humDepart_keeps (w : Work) (e : Entry) : w.KeepsBoth (humDepart w e) :=
  ((both_templates w _ _).trans (both_noteIf _ _ _)).trans (both_templates _ _ _)

theorem hissDepart_keeps (w : Work) (xd : Int) : w.KeepsBoth (hissDepart w xd) :=
  (both_setRun).trans (both_noteIf _ _ _)

theorem departStages_keeps (w : Work) (e : Entry) (r : Option DefectRecord) :
    w.KeepsBoth (departStages w e r) := by
  have k (w : Work) : w.KeepsBoth (retireAt w e r) := by
    unfold retireAt
    split
    · split
      · exact retire_keeps _ _ _
      · exact .refl _
    · exact .refl _
  exact ((humDepart_keeps w e).trans (hissDepart_keeps _ _)).trans ((judge_keeps _ _ _).trans (k _))

theorem depart_keeps (w : Work) : w.KeepsBoth (depart w) := by
  unfold depart
  split
  · exact .refl _
  · exact (both_setRun).trans (departStages_keeps _ _ _)

theorem departUpTo_keeps (n : Nat) (w : Work) : w.KeepsBoth (departUpTo n w) := by
  induction n generalizing w with
  | zero => exact .refl _
  | succ n ih =>
    unfold departUpTo
    split
    · exact (depart_keeps w).trans (ih _)
    · exact .refl _

theorem departureTest_keeps (w : Work) : w.KeepsBoth (departureTest w) := departUpTo_keeps _ w

/-! ### The detector -/

theorem dropRecord_keeps (w : Work) : w.KeepsBoth (dropRecord w) := by
  unfold dropRecord
  dsimp only
  split
  · exact both_count _ _
  · exact ((both_count w _).trans (both_raise _ _)).trans (both_setRun)

theorem openRecord_keeps (w : Work) (a b : Pos) (c : Causes) (p : Nat) (t : Nat × Nat) :
    w.KeepsBoth (openRecord w a b c p t) := by
  unfold openRecord
  dsimp only
  split
  · exact dropRecord_keeps w
  · exact both_setRun

theorem openAt_keeps (w : Work) (n : Entry) (b : Bool) (m : Measures) (d : Demand) :
    w.KeepsBoth (openAt w n b m d) := by
  unfold openAt
  dsimp only
  split
  · exact .refl _
  · exact openRecord_keeps _ _ _ _ _ _

theorem openRemainder_keeps (w : Work) (n : Entry) (p : Pos) (d : Demand) :
    w.KeepsBoth (openRemainder w n p d) := by
  unfold openRemainder
  split
  · exact openRecord_keeps _ _ _ _ _ _
  · exact .refl _

theorem extendRecord_keeps (w : Work) (r : DefectRecord) (n : Entry) (m : Measures) (d : Demand) :
    w.KeepsBoth (extendRecord w r n m d) := by
  unfold extendRecord
  dsimp only
  split
  · split
    · exact (both_setRun).trans (openAt_keeps _ _ _ _ _)
    · exact (both_setRun).trans (openRemainder_keeps _ _ _ _)
  · exact both_setRun

theorem recordActions_keeps (w : Work) (n : Entry) (m : Measures) (d : Demand) :
    w.KeepsBoth (recordActions w n m d) := by
  unfold recordActions
  split
  · split
    · exact extendRecord_keeps _ _ _ _ _
    · exact both_setRun
  · exact openAt_keeps _ _ _ _ _

theorem closingTest_keeps (w : Work) (n : Pos) : w.KeepsBoth (closingTest w n) := by
  unfold closingTest
  split
  · split
    · exact (both_setRun).trans (both_note _ _)
    · exact .refl _
  · exact .refl _

theorem examine_keeps (w : Work) (n : Entry) : w.KeepsBoth (examine w n) := by
  unfold examine
  split
  · exact .refl _
  · exact (((both_setRun).trans (recordActions_keeps _ _ _ _)).trans
      (closingTest_keeps _ _)).trans (both_setRun)

theorem closeAtLoss_keeps (w : Work) : w.KeepsBoth (closeAtLoss w) := by
  unfold closeAtLoss
  split
  · exact both_setRun
  · exact .refl _

/-! ### The entry event -/

theorem abandon_keepsInput (run : Run) (r : DefectRecord) :
    (run.abandon r).generator = run.generator ∧ (run.abandon r).tracker = run.tracker ∧
      (run.abandon r).resampler = run.resampler := by
  unfold Run.abandon
  split <;> exact ⟨rfl, rfl, rfl⟩

theorem makeRoomOnce_keeps (w : Work) : w.KeepsBoth (makeRoomOnce w) := by
  unfold makeRoomOnce
  split
  · rename_i r _
    obtain ⟨hg, ht, hr⟩ := abandon_keepsInput w.lane.run r
    exact ((both_setRun hg ht hr).trans (both_raise _ _)).trans (depart_keeps _)
  · exact depart_keeps w

theorem makeRoom_keeps (n : Nat) (w : Work) : w.KeepsBoth (makeRoom n w) := by
  induction n generalizing w with
  | zero => exact .refl _
  | succ n ih =>
    unfold makeRoom
    split
    · exact .refl _
    · exact (makeRoomOnce_keeps w).trans (ih _)

theorem indexOutput_keeps (w : Work) (o : Output) : w.KeepsBoth (indexOutput w o) := by
  unfold indexOutput
  dsimp only
  split
  · exact both_setRun
  · exact (both_setRun).trans ⟨keeps_setFront _ _, ⟨rfl, rfl, rfl, rfl⟩⟩

theorem placeEntry_keeps (w : Work) (e : Entry) : w.KeepsBoth (placeEntry w e) :=
  (both_setRun).trans (both_count _ _)

/-- An entry event changes neither the tracker nor the resampler nor the generator, and of the front end the
hold value alone. -/
theorem entryEvent_keeps (w : Work) (o : Output) : w.KeepsBoth (entryEvent w o) :=
  ((((indexOutput_keeps w o).trans (makeRoom_keeps _ _)).trans (placeEntry_keeps _ _)).trans
    (examine_keeps _ _)).trans (departureTest_keeps _)

/-! ### An instant -/

theorem produceUpTo_keeps (p q : PrevInstant) (n : Nat) (w : Work) :
    w.Keeps (produceUpTo p q n w) := by
  induction n generalizing w with
  | zero => exact .refl _
  | succ n ih =>
    unfold produceUpTo
    split
    · exact ((keeps_setRun _ _).trans (entryEvent_keeps _ _).1).trans (ih _)
    · exact .refl _

/-- The outputs of an instant leave the tracker and the generator as they are, of the front end they change
the hold value alone, and of the resampler not the previous instant. -/
theorem produceUpTo_frame (p q : PrevInstant) (n : Nat) (w : Work) :
    { (produceUpTo p q n w).lane.front with holdValue := w.lane.front.holdValue } = w.lane.front ∧
      (produceUpTo p q n w).lane.run.generator = w.lane.run.generator ∧
      (produceUpTo p q n w).lane.run.tracker = w.lane.run.tracker := by
  induction n generalizing w with
  | zero => exact ⟨rfl, rfl, rfl⟩
  | succ n ih =>
    unfold produceUpTo
    split
    · have h := (entryEvent_keeps
        (w.setRun { w.lane.run with resampler := w.lane.run.resampler.advance })
        (outputAt w.lane p q)).2
      obtain ⟨h1, h2, h3⟩ := ih (produce p q w)
      have hf := h.front
      unfold produce at h1 h2 h3 ⊢
      refine ⟨?_, h2.trans h.generator, h3.trans h.tracker⟩
      rw [← h1] at hf
      exact hf
    · exact ⟨rfl, rfl, rfl⟩

theorem putTracker_keeps (w : Work) (t : Tracker) : w.Keeps (w.putTracker t) := by
  unfold Work.putTracker
  dsimp only
  split
  · exact (keeps_setRun _ _).trans (keeps_raise _ _)
  · exact keeps_setRun _ _

theorem trackEdge_keeps (k : Pos) (w : Work) : w.Keeps (trackEdge k w) :=
  ((((keeps_count _ _).trans (putTracker_keeps _ _)).trans (keeps_setRun _ _)).trans
    (keeps_noteIf _ _ _)).trans (keeps_noteIf _ _ _)

theorem trackEdges_keeps (k : Pos) (n : Nat) (w : Work) : w.Keeps (trackEdges k n w) := by
  induction n generalizing w with
  | zero => exact .refl _
  | succ n ih => exact (trackEdge_keeps k w).trans (ih _)

theorem trackInstant_keeps (k : Pos) (n : Nat) (w : Work) : w.Keeps (trackInstant k n w) :=
  (trackEdges_keeps k n w).trans
    (((keeps_count _ _).trans (putTracker_keeps _ _)).trans (keeps_noteIf _ _ _))

theorem onSignalLost_keeps (w : Work) : w.KeepsBoth (onSignalLost w) := by
  unfold onSignalLost
  dsimp only
  split
  · exact (((both_raise w _).trans (both_note _ _)).trans (closeAtLoss_keeps _)).trans
      (departureTest_keeps _)
  · exact (both_raise w _).trans (both_note _ _)

theorem onSignalRecovered_keeps (w : Work) : w.KeepsBoth (onSignalRecovered w) :=
  ((both_raise w _).trans (both_note _ _)).trans (both_setRun)

theorem watchSignal_keeps (q : Quality) (w : Work) : w.Keeps (watchSignal q w) := by
  unfold watchSignal
  dsimp only
  split
  · exact (keeps_setFront _ _).trans (onSignalLost_keeps _).1
  · exact (keeps_setFront _ _).trans (onSignalRecovered_keeps _).1
  · exact keeps_setFront _ _

theorem restep_keeps (w : Work) (e : Int) : w.Keeps (w.restep e) := by
  unfold Work.restep
  dsimp only
  split
  · exact .refl _
  · exact keeps_setRun _ _

theorem resampleInstant_keeps (q : PrevInstant) (b : Bool) (w : Work) :
    w.Keeps (resampleInstant q b w) := by
  unfold resampleInstant
  dsimp only
  split
  · exact ((keeps_setRun _ _).trans (produceUpTo_keeps _ _ _ _)).trans (keeps_setRun _ _)
  · exact (keeps_setRun _ _).trans (keeps_setRun _ _)

theorem completeInstant_keeps (x : Int) (h : Option Halves) (q : Quality) (es : List EdgeKind)
    (w : Work) : w.Keeps (completeInstant x h q es w) :=
  ((((keeps_setFront _ _).trans (watchSignal_keeps _ _)).trans (trackInstant_keeps _ _ _)).trans
    (restep_keeps _ _)).trans (resampleInstant_keeps _ _ _)

theorem completeSensor_keeps (x : Int) (h : Option Halves) (q : Quality) (w : Work) :
    w.Keeps (completeSensor x h q w) :=
  (keeps_setFront _ _).trans (completeInstant_keeps _ _ _ _ _)

theorem takeWord_keeps (f : SensorFields) (w : Work) : w.Keeps (takeWord f w) := by
  unfold takeWord
  split
  · split
    · unfold takeDual
      split
      · exact keeps_setFront _ _
      · exact (keeps_setFront _ _).trans (keeps_count _ _)
      · exact (keeps_setFront _ _).trans (completeSensor_keeps _ _ _ _)
      · exact keeps_count _ _
    · exact completeSensor_keeps _ _ _ _
  · exact .refl _

theorem takeEdge_keeps (k : EdgeKind) (w : Work) : w.Keeps (takeEdge k w) := by
  unfold takeEdge
  split
  · exact keeps_setFront _ _
  · exact .refl _

theorem generateInstant_keeps (w : Work) : w.Keeps (generateInstant w) := by
  unfold generateInstant
  split
  · exact (keeps_setRun _ _).trans (completeInstant_keeps _ _ _ _ _)
  · exact .refl _

theorem writeBackLane_keeps (b : BankId) (j : Job) (rs : List Int) (w : Work) :
    w.KeepsBoth (writeBackLane b j rs w) := by
  unfold writeBackLane
  split
  · exact (both_setRun).trans (departureTest_keeps _)
  · exact .refl _

end Sys2Proof.Machine
end

