-- ==== Sys2Proof/Laws/Blocks.lean ====
section
/-! SUPPORT. One equation for each small operation of the detector, the segment slots and the resampler: what
it does to the lane, in the terms of the statements. -/

namespace Sys2Proof.Machine

/-! ### Counts and drops -/

/-- A count changes the report of the RUNNING slot and nothing else (R154). -/
theorem count_counts (l : Lane) (f : Report → Report) : l.Counts (l.count f) f := by
  refine ⟨fun h => by simp [Lane.count, h], fun i d r q m h hs => ?_⟩
  simp [Lane.count, h, hs, Slot.count]

/-- A count touches the slots alone. -/
theorem count_slots (l : Lane) (f : Report → Report) :
    ∃ a b, l.count f = { l with slotA := a, slotB := b } := by
  unfold Lane.count
  rcases l.runningSlot with _ | (_ | _) <;> exact ⟨_, _, rfl⟩

/-- A count that follows a change of the run alone is taken as before it. -/
theorem count_withRun (l : Lane) (r : Run) (f : Report → Report) :
    ({ l with run := r } : Lane).count f = { l.count f with run := r } := by
  unfold Lane.count Lane.runningSlot
  dsimp only
  cases l.slotA.isRunning
  · cases l.slotB.isRunning <;> rfl
  · rfl

/-- What a drop does (R99). -/
theorem dropRecord_eq (w : Work) : dropRecord w = { w with lane := w.lane.withDrop } := by
  unfold dropRecord Lane.withDrop
  simp only [Work.count, Work.setLane, bump, satAdd, Config.counterMax]
  obtain ⟨a, b, h⟩ := count_slots w.lane fun r =>
    { r with recordsDropped := min (r.recordsDropped + 1) 4294967295 }
  simp only [h]
  by_cases hf : w.lane.run.queue.fullNotice = true
  · have : ({ w.lane.run.queue with fullNotice := true } : DefectQueue) = w.lane.run.queue := by
      rw [← hf]
    rw [if_pos hf, if_pos hf, this]
  · rw [if_neg hf, if_neg hf]
    rfl

/-! ### Records -/

/-- Covering changes the ring alone (R91). -/
theorem cover_eq (r : DefectRecord) (run : Run) :
    Run.cover run r = { run with ring := run.ring.covered r } := by
  unfold Run.cover Ring.covered Entry.cover
  simp [inSpan]

/-- An update replaces the one record of its id. -/
theorem update_eq {q : DefectQueue} {pre post : List DefectRecord} {r r' : DefectRecord}
    (h : q.records = pre ++ r :: post) (hu : ∀ x ∈ pre ++ post, x.id ≠ r.id) (hr : r'.id = r.id) :
    q.update r' = { q with records := pre ++ r' :: post } := by
  have keep (l : List DefectRecord) (hl : ∀ x ∈ l, x.id ≠ r.id) :
      l.map (fun o => if o.id = r.id then r' else o) = l :=
    (List.map_congr_left fun x hx => if_neg (hl x hx)).trans (List.map_id l)
  unfold DefectQueue.update
  simp only [h, hr, List.map_append, List.map_cons, if_true,
    keep pre fun x hx => hu x (by simp [hx]), keep post fun x hx => hu x (by simp [hx])]

theorem openRecord_eq_none {q : DefectQueue} (h : ∀ r ∈ q.records, r.state ≠ .opened) :
    q.openRecord = none := by
  simpa [DefectQueue.openRecord, List.find?_eq_none] using h

/-- The one OPEN record is the open record. -/
theorem openRecord_eq_some {q : DefectQueue} {pre post : List DefectRecord} {r : DefectRecord}
    (h : q.records = pre ++ r :: post) (hp : ∀ x ∈ pre, x.state ≠ .opened) (hr : r.state = .opened) :
    q.openRecord = some r := by
  unfold DefectQueue.openRecord
  rw [h, List.find?_append, List.find?_eq_none.2 (by simpa using hp)]
  simp [hr]

/-- An opening at a queue that has room (R90, R91). -/
theorem openRecord_eq {w : Work} (start stop : Pos) (c : Causes) (p : Nat) (t : Nat × Nat)
    (h : w.lane.run.queue.records.length < 32) :
    openRecord w start stop c p t =
      { w with
        lane := w.lane.withOpened
          { id := w.lane.run.detector.nextId, start, stop, causes := c, peak := p
            overLength := tooLong w.lane start stop, sumA := t.1, sumB := t.2
            state := .opened, kind := none, cleanHalf := none, holding := none } } := by
  unfold openRecord
  dsimp only
  split
  · rename_i hn
    exact absurd hn (Nat.not_le.2 h)
  · rw [cover_eq]; rfl

/-- An opening at a full queue (R99). -/
theorem openRecord_full {w : Work} (start stop : Pos) (c : Causes) (p : Nat) (t : Nat × Nat)
    (h : 32 ≤ w.lane.run.queue.records.length) :
    openRecord w start stop c p t = { w with lane := w.lane.withDrop } := by
  unfold openRecord
  dsimp only
  split
  · exact dropRecord_eq w
  · rename_i hn
    exact absurd h hn

theorem asks_iff (d : Demand) : d.asks = true ↔ d.fires = true ∨ 1 ≤ d.splice := by
  simp [Demand.asks, Nat.one_le_iff_ne_zero, Nat.pos_iff_ne_zero]

/-- What a demand reaches, as a number of positions (R90, R92, R95). -/
theorem reach_eq {d : Demand} (h : d.fires = true ∨ 1 ≤ d.splice) : d.reach = (d.beyond : Int) := by
  simp only [Demand.reach, Demand.beyond]
  by_cases hf : d.fires = true
  · rw [if_pos hf, if_pos hf]
    push_cast
    omega
  · rw [if_neg hf, if_neg hf]
    have : 1 ≤ d.splice := h.resolve_left hf
    omega

/-- The last end limits a start by its difference to n, and bites at n − 1 and n − 2 alone (R90). -/
theorem limitBack_eq (e n : Pos) (k : Nat) (hk : k ≤ 2) :
    limitBack (some e) n k = if n - e = 1 then 0 else if n - e = 2 then min 1 k else k := by
  unfold limitBack
  dsimp only
  by_cases he : e = n
  · subst he; simp
  · rw [if_neg he]
    split
    · simp [*]
    · split
      · simp [*, min_comm]
      · have h0 : (n - e).toNat ≠ 0 := fun h => he (by bv_omega)
        have h1 : (n - e).toNat ≠ 1 := fun h => by
          rename_i hn _; exact hn (BitVec.eq_of_toNat_eq (by simpa using h))
        have h2 : (n - e).toNat ≠ 2 := fun h => by
          rename_i hn; exact hn (BitVec.eq_of_toNat_eq (by simpa using h))
        omega

/-- From d to d' the detector keeps its history, envelopes, mean and settle count. -/
def Detector.KeepsMeasures (d d' : Detector) : Prop :=
  d'.history = d.history ∧ d'.envA = d.envA ∧ d'.meanM = d.meanM ∧ d'.envAa = d.envAa ∧
    d'.settle = d.settle

theorem Detector.KeepsMeasures.refl (d : Detector) : d.KeepsMeasures d := ⟨rfl, rfl, rfl, rfl, rfl⟩

theorem Detector.KeepsMeasures.trans {a b c : Detector} (h : a.KeepsMeasures b)
    (k : b.KeepsMeasures c) : a.KeepsMeasures c :=
  ⟨k.1.trans h.1, k.2.1.trans h.2.1, k.2.2.1.trans h.2.2.1, k.2.2.2.1.trans h.2.2.2.1,
    k.2.2.2.2.trans h.2.2.2.2⟩

theorem openRecord_keepsMeasures (w : Work) (a b : Pos) (c : Causes) (p : Nat) (t : Nat × Nat) :
    w.lane.run.detector.KeepsMeasures (openRecord w a b c p t).lane.run.detector := by
  by_cases h : 32 ≤ w.lane.run.queue.records.length
  · rw [openRecord_full a b c p t h]
    exact .refl _
  · rw [openRecord_eq a b c p t (Nat.not_le.1 h)]
    exact ⟨rfl, rfl, rfl, rfl, rfl⟩

theorem openAt_keepsMeasures (w : Work) (n : Entry) (b : Bool) (m : Measures) (d : Demand) :
    w.lane.run.detector.KeepsMeasures (openAt w n b m d).lane.run.detector := by
  unfold openAt
  dsimp only
  split
  · exact .refl _
  · exact openRecord_keepsMeasures _ _ _ _ _ _

theorem openRemainder_keepsMeasures (w : Work) (n : Entry) (p : Pos) (d : Demand) :
    w.lane.run.detector.KeepsMeasures (openRemainder w n p d).lane.run.detector := by
  unfold openRemainder
  split
  · exact openRecord_keepsMeasures _ _ _ _ _ _
  · exact .refl _

theorem addEnergy_keepsMeasures (run : Run) (r : DefectRecord) (m : Measures) (n : Pos) :
    run.detector.KeepsMeasures (addEnergy run r m n).2 := by
  unfold addEnergy
  dsimp only
  split
  · exact .refl _
  · split <;> exact ⟨rfl, rfl, rfl, rfl, rfl⟩

/-- The record actions touch neither the history nor what the tests compare with (R83, step 4). -/
theorem recordActions_keepsMeasures (w : Work) (n : Entry) (m : Measures) (d : Demand) :
    w.lane.run.detector.KeepsMeasures (recordActions w n m d).lane.run.detector := by
  unfold recordActions
  split
  · split
    · unfold extendRecord
      dsimp only
      split
      · split
        · exact (addEnergy_keepsMeasures _ _ _ _).trans (openAt_keepsMeasures _ _ _ _ _)
        · exact (addEnergy_keepsMeasures _ _ _ _).trans (openRemainder_keepsMeasures _ _ _ _)
      · exact addEnergy_keepsMeasures _ _ _ _
    · exact addEnergy_keepsMeasures _ _ _ _
  · exact openAt_keepsMeasures _ _ _ _ _

/-- Nor does the closing test (R83, step 5). -/
theorem closingTest_keepsMeasures (w : Work) (n : Pos) :
    w.lane.run.detector.KeepsMeasures (closingTest w n).lane.run.detector := by
  unfold closingTest
  split
  · split
    · exact ⟨rfl, rfl, rfl, rfl, rfl⟩
    · exact .refl _
  · exact .refl _

/-- An entry before the open record's start adds to no sums (R96). -/
theorem addEnergy_before {run : Run} {r : DefectRecord} {m : Measures} {n : Pos}
    (h : posDiff n r.start < 0) : addEnergy run r m n = (r, run.detector) := if_pos h

/-- A loss of signal with no open record raises the condition alone (R16). -/
theorem onSignalLost_none {w : Work} (h : w.lane.run.queue.openRecord = none) :
    onSignalLost w = (w.raise .signalState).note .signalLost := by
  have : ((w.raise .signalState).note .signalLost).lane.run.queue.openRecord = none := h
  unfold onSignalLost
  simp only [this]

/-- A loss of signal closes the open record as LONG, and the departure test follows (R88). -/
theorem onSignalLost_some {w : Work} {r : DefectRecord} (h : w.lane.run.queue.openRecord = some r) :
    onSignalLost w =
      departureTest
        (((w.raise .signalState).note .signalLost).setRun (w.lane.run.close r .long)) := by
  have : ((w.raise .signalState).note .signalLost).lane.run.queue.openRecord = some r := h
  unfold onSignalLost closeAtLoss
  simp only [this]
  rfl

/-! ### Segments -/

theorem startsAt_iff (d : Descriptor) (e : Entry) : d.startsAt e = true ↔ d.Meets e := by
  unfold Descriptor.startsAt Descriptor.Meets
  cases d.start <;> simp

/-! ### Outputs -/

/-- An output advances the resampler, and what follows it leaves the resampler alone (R39, R42). -/
theorem produce_resampler (p q : PrevInstant) (w : Work) :
    (produce p q w).lane.run.resampler = w.lane.run.resampler.advance :=
  (entryEvent_keeps _ _).2.resampler

/-- RP after n outputs, with the step as it was (R39). -/
theorem produce_iterate_rp (p q : PrevInstant) (n : Nat) (w : Work) :
    ((produce p q)^[n] w).lane.run.resampler.rp =
        w.lane.run.resampler.rp + BitVec.ofInt 48 (n * w.lane.run.resampler.step) ∧
      ((produce p q)^[n] w).lane.run.resampler.step = w.lane.run.resampler.step := by
  induction n with
  | zero => simp
  | succ n ih =>
    rw [Function.iterate_succ_apply', produce_resampler]
    refine ⟨?_, ih.2⟩
    simp only [Resampler.advance]
    rw [ih.1, ih.2, BitVec.add_assoc, ← BitVec.ofInt_add]
    congr 2
    push_cast
    ring

/-- The outputs of an instant are produced one after the other while RP stands at the previous instant's
index, at most m of them (R39). -/
theorem produceUpTo_eq (p q : PrevInstant) (m : Nat) (w : Work) :
    ∃ n ≤ m, produceUpTo p q m w = (produce p q)^[n] w ∧
      (∀ k < n, rpIndex ((produce p q)^[k] w).lane.run.resampler.rp = p.index) ∧
      (n < m → rpIndex ((produce p q)^[n] w).lane.run.resampler.rp ≠ p.index) := by
  induction m generalizing w with
  | zero => exact ⟨0, le_refl _, rfl, by simp, by simp⟩
  | succ m ih =>
    unfold produceUpTo
    split
    · rename_i h
      obtain ⟨n, hn, he, hi, ho⟩ := ih (produce p q w)
      refine ⟨n + 1, by omega, he, fun k hk => ?_, fun h => ho (by omega)⟩
      cases k with
      | zero => exact h
      | succ k => exact hi k (by omega)
    · rename_i h
      exact ⟨0, by omega, rfl, by simp, fun _ => h⟩

end Sys2Proof.Machine
end

