-- ==== Sys2Proof/Laws/Commands.lean ====
section
/-! SUPPORT. What the shared operations of Machine/Ops.lean can do: the taking of a command and an event of
a lane, said once for every row that uses them. -/

namespace Sys2Proof.Machine

/-! ### A frame taken, or not -/

theorem takeFrame_taken {f : Frame} {s : State} (h : s.canTake f = true)
    (body : State → State × Answer) :
    takeFrame f body s = (body s).1.reply (replyTo f (body s).2) := by
  simp [takeFrame, h]

theorem takeFrame_notTaken {f : Frame} {s : State} (h : s.canTake f ≠ true)
    (body : State → State × Answer) : takeFrame f body s = s := by
  simp [takeFrame, h]

theorem laneOf_eq_some {b : Byte} {l : LaneId} : laneOf b = some l ↔ b.toNat = l.val := by
  unfold laneOf
  constructor
  · intro h
    split at h
    · exact congrArg Fin.val (Option.some.inj h)
    · cases h
  · intro h
    rw [dif_pos (h ▸ l.isLt)]
    exact congrArg some (Fin.ext h)

theorem laneOf_eq_none {b : Byte} : laneOf b = none ↔ 8 ≤ b.toNat := by
  unfold laneOf
  split <;> simp <;> omega

/-! ### Commands to the device -/

/-- A device command that is taken with its lane field and length right has its own effect and answer. -/
theorem takeDevice_body {kind : Byte} {len : Nat} {c : Command} {s : State}
    (ht : s.canTake (commandFrame kind c) = true) (hl : c.lane = 255)
    (hn : c.payload.length = len) (body : State → State × Answer) :
    takeDevice kind len c body s =
      (body s).1.reply (replyTo (commandFrame kind c) (body s).2) := by
  simp [takeDevice, takeFrame_taken ht, hl, hn]

theorem takeDevice_badLane {kind : Byte} {len : Nat} {c : Command} {s : State}
    (ht : s.canTake (commandFrame kind c) = true) (hl : c.lane ≠ 255)
    (body : State → State × Answer) :
    takeDevice kind len c body s =
      s.reply (replyTo (commandFrame kind c) (refuse .badLane)) := by
  simp only [takeDevice, takeFrame_taken ht, if_pos hl]

theorem takeDevice_badLength {kind : Byte} {len : Nat} {c : Command} {s : State}
    (ht : s.canTake (commandFrame kind c) = true) (hl : c.lane = 255)
    (hn : c.payload.length ≠ len) (body : State → State × Answer) :
    takeDevice kind len c body s =
      s.reply (replyTo (commandFrame kind c) (refuse .badLength)) := by
  simp [takeDevice, takeFrame_taken ht, hl, hn]

theorem takeDevice_notTaken {kind : Byte} {len : Nat} {c : Command} {s : State}
    (ht : s.canTake (commandFrame kind c) ≠ true) (body : State → State × Answer) :
    takeDevice kind len c body s = s :=
  takeFrame_notTaken ht _

/-! ### Commands to a lane -/

/-- A lane command that is taken with its lane field and length right does to the lane what its body does,
and answers the body's answer. -/
theorem takeLane_body {kind : Byte} {lenOk : Nat → Bool} {c : Command} {s : State} {l : LaneId}
    (ht : s.canTake (commandFrame kind c) = true) (hl : c.lane.toNat = l.val)
    (hn : lenOk c.payload.length = true) (body : Work → Work × Answer) :
    takeLane kind lenOk c body s =
      (s.putWork (body (s.work l)).1).reply
        (replyTo (commandFrame kind c) (body (s.work l)).2) := by
  simp [takeLane, takeFrame_taken ht, laneOf_eq_some.2 hl, hn]

theorem takeLane_badLane {kind : Byte} {lenOk : Nat → Bool} {c : Command} {s : State}
    (ht : s.canTake (commandFrame kind c) = true) (hl : 8 ≤ c.lane.toNat)
    (body : Work → Work × Answer) :
    takeLane kind lenOk c body s =
      s.reply (replyTo (commandFrame kind c) (refuse .badLane)) := by
  simp [takeLane, takeFrame_taken ht, laneOf_eq_none.2 hl]

theorem takeLane_badLength {kind : Byte} {lenOk : Nat → Bool} {c : Command} {s : State}
    (ht : s.canTake (commandFrame kind c) = true) (hl : c.lane.toNat < 8)
    (hn : lenOk c.payload.length = false) (body : Work → Work × Answer) :
    takeLane kind lenOk c body s =
      s.reply (replyTo (commandFrame kind c) (refuse .badLength)) := by
  have h := laneOf_eq_some (l := ⟨c.lane.toNat, hl⟩).2 rfl
  simp [takeLane, takeFrame_taken ht, h, hn]

theorem takeLane_notTaken {kind : Byte} {lenOk : Nat → Bool} {c : Command} {s : State}
    (ht : s.canTake (commandFrame kind c) ≠ true) (body : Work → Work × Answer) :
    takeLane kind lenOk c body s = s :=
  takeFrame_notTaken ht _

/-- What a lane command can do to the state: nothing, a reply, or its body on the lane its lane field names
and the body's reply. -/
theorem takeLane_cases (kind : Byte) (lenOk : Nat → Bool) (c : Command)
    (body : Work → Work × Answer) (s : State) :
    takeLane kind lenOk c body s = s ∨
      (∃ r, takeLane kind lenOk c body s = s.reply r) ∨
      ∃ l : LaneId, c.lane.toNat = l.val ∧ lenOk c.payload.length = true ∧
        takeLane kind lenOk c body s =
          (s.putWork (body (s.work l)).1).reply
            (replyTo (commandFrame kind c) (body (s.work l)).2) := by
  by_cases ht : s.canTake (commandFrame kind c) = true
  · by_cases hl : c.lane.toNat < 8
    · cases hn : lenOk c.payload.length
      · exact .inr (.inl ⟨_, takeLane_badLength ht hl hn body⟩)
      · exact .inr (.inr ⟨⟨_, hl⟩, rfl, rfl, takeLane_body (l := ⟨_, hl⟩) ht rfl hn body⟩)
    · exact .inr (.inl ⟨_, takeLane_badLane ht (by omega) body⟩)
  · exact .inl (takeLane_notTaken ht body)

/-- What a device command can do to the state: nothing, a reply, or its body and the body's reply. -/
theorem takeDevice_cases (kind : Byte) (len : Nat) (c : Command) (body : State → State × Answer)
    (s : State) :
    takeDevice kind len c body s = s ∨
      (∃ r, takeDevice kind len c body s = s.reply r) ∨
      takeDevice kind len c body s =
        (body s).1.reply (replyTo (commandFrame kind c) (body s).2) := by
  by_cases ht : s.canTake (commandFrame kind c) = true
  · by_cases hl : c.lane = 255
    · by_cases hn : c.payload.length = len
      · exact .inr (.inr (takeDevice_body ht hl hn body))
      · exact .inr (.inl ⟨_, takeDevice_badLength ht hl hn body⟩)
    · exact .inr (.inl ⟨_, takeDevice_badLane ht hl body⟩)
  · exact .inl (takeDevice_notTaken ht body)

/-! ### Events of a lane -/

/-- An event of lane l while RESETn is high: the lane is what the event made of it. -/
theorem laneEvent_high {s : State} (h : s.resetHeld = false) (l : LaneId) (f : Work → Work) :
    laneEvent l f s = s.putWork (f (s.work l)) := by
  simp [laneEvent, h]

theorem laneEvent_low {s : State} (h : s.resetHeld = true) (l : LaneId) (f : Work → Work) :
    laneEvent l f s = s := by
  simp [laneEvent, h]

/-- A work put back unchanged changes nothing. -/
@[simp] theorem State.putWork_work (s : State) (l : LaneId) : s.putWork (s.work l) = s := by
  cases s
  simp [State.putWork, State.work, State.setLane, State.setLink]

/-- After an event of lane l that keeps its id, lane l is the event's, and the other lanes are as before. -/
theorem State.lanes_putWork (s : State) (w : Work) (i : LaneId) :
    (s.putWork w).lanes[i] = if i = w.id then w.lane else s.lanes[i] := by
  by_cases h : i = w.id
  · subst h; simp
  · have : w.id.val ≠ i.val := fun e => h (Fin.ext e.symm)
    simp [h, this]

end Sys2Proof.Machine
end

