-- ==== Sys2Proof/Laws/LineCode.lean ====
section
/-! SUPPORT. What the line code of Machine/LineCode.lean can do: every character is read back from its code,
and what the transmitter changes. -/

namespace Sys2Proof.Machine

/-- The character that a code may be is the one it codes, for the data bytes by trial of all. -/
theorem candidate_code (d : Disparity) (ch : LinkChar) : candidate (ch.code d) = some ch := by
  have data : ∀ (e : Bool) (i : Fin 256),
      candidate ((LinkChar.data (BitVec.ofFin i)).code (if e then .plus else .minus)) =
        some (.data (BitVec.ofFin i)) := by decide +kernel
  cases ch with
  | data b => cases d <;> [exact data false b.toFin; exact data true b.toFin]
  | idle | start | stop => cases d <;> decide

/-- A receiver that follows the disparity reads every character that is sent. -/
@[simp] theorem readCode_code (d : Disparity) (ch : LinkChar) : readCode d (ch.code d) = some ch := by
  simp [readCode, candidate_code]

/-- A start character shows the disparity it was sent at, which it leaves as it is. -/
@[simp] theorem startDisparity_start (d : Disparity) :
    startDisparity (LinkChar.start.code d) = some d ∧ d.after (LinkChar.start.code d) = d := by
  cases d <;> decide

/-! ### Where the characters are collected -/

/-- An end character ends the collecting. -/
theorem collect_stop (d : Disparity) (cs : List Code) :
    collect d (LinkChar.stop.code d :: cs) = some [] := by simp [collect]

/-- Any other character that is sent is collected. -/
theorem collect_code {ch : LinkChar} (h : ch ≠ .stop) (d : Disparity) (cs : List Code) :
    collect d (ch.code d :: cs) = (collect (d.after (ch.code d)) cs).map (some ch :: ·) := by
  cases ch <;> simp_all [collect]

/-! ### The transmitter -/

@[simp] theorem Link.transmit_inbound (k : Link) (cs : List LinkChar) :
    (k.transmit cs).inbound = k.inbound := rfl

@[simp] theorem Link.transmit_waiting (k : Link) (cs : List LinkChar) :
    (k.transmit cs).waiting = k.waiting := rfl

@[simp] theorem Link.transmit_taking (k : Link) (cs : List LinkChar) :
    (k.transmit cs).taking = k.taking := rfl

@[simp] theorem Link.transmit_outbound (k : Link) (cs : List LinkChar) :
    (k.transmit cs).outbound = k.outbound := rfl

@[simp] theorem Link.transmit_stats (k : Link) (cs : List LinkChar) :
    (k.transmit cs).stats = k.stats := rfl

@[simp] theorem Link.transmit_deviceMask (k : Link) (cs : List LinkChar) :
    (k.transmit cs).deviceMask = k.deviceMask := rfl

@[simp] theorem Link.transmit_deviceLatch (k : Link) (cs : List LinkChar) :
    (k.transmit cs).deviceLatch = k.deviceLatch := rfl

@[simp] theorem Link.transmit_txLine (k : Link) (cs : List LinkChar) :
    (k.transmit cs).txLine = lineCodes k.txDisparity cs := rfl

@[simp] theorem Link.transmit_txDisparity (k : Link) (cs : List LinkChar) :
    (k.transmit cs).txDisparity = lineDisparity k.txDisparity cs := rfl

/-- Characters sent in two parts: the second from the disparity that the first leaves. -/
theorem lineCodes_append (d : Disparity) (as bs : List LinkChar) :
    lineCodes d (as ++ bs) = lineCodes d as ++ lineCodes (lineDisparity d as) bs := by
  induction as generalizing d with
  | nil => rfl
  | cons a as ih => simp [lineCodes, lineDisparity, ih]

end Sys2Proof.Machine
end

