-- ==== Sys2Proof/Tests/Slice0.lean ====
section
/-! SUPPORT. The tests of the model. First the well-formedness checks, then one step at a time against the worked
examples and tables of spec/ (each test names its place there), and last a witness for the hypotheses of
every statement. -/

open Sys2Proof Sys2Proof.Machine

namespace Sys2Proof.Tests

-- one proof at a time: many kernel evaluations at once ask for more threads than a checking machine may have
set_option Elab.async false

/-! ### Small states -/

/-- A command with tag 7. -/
def cmd (lane : Byte) (payload : List Byte) : Command := ⟨7, lane, payload⟩

/-- The reset state with lane 0 replaced. -/
def only (l : Lane) : State := State.reset.withLane 0 l

/-- A STOPPED lane after reset, with one parameter set. -/
def stoppedLane (p : Param) (v : Int) : Lane :=
  { Lane.reset with state := .stopped, params := Params.defaults.put p v }

/-- A lane just started, with one parameter set. -/
def startedLane (p : Param) (v : Int) : Lane := (stoppedLane p v).start

/-- A lane just started at the defaults. -/
def started : Lane := startedLane .railMode 0

/-- The state after a command; every command of this model answers a next state. -/
def after (i : Instr) (s : State) : State :=
  match exec i s with
  | .next t => t
  | .fault _ | .refused _ => s

/-- A sensor word of lane 0. -/
def word (half quality value : Nat) : BitVec 32 :=
  BitVec.ofNat 32 (half * 2 ^ 28 + quality * 2 ^ 26 + value)

/-- An entry of value 0 at a position, with nothing on it. -/
def entryAt (p : Pos) : Entry where
  pos := p
  x := 0
  halves := none
  w := 0
  ts := 0
  tl := 0
  perfMark := false
  spliceMark := false
  locked := false
  sensor := false
  lost := false
  defect := false
  repaired := false
  departed := false
  link := none

/-- A record of id 0 over a span, in a state. -/
def recordOver (start stop : Pos) (st : RecordState) : DefectRecord where
  id := 0
  start := start
  stop := stop
  causes := ⟨true, false, false, false⟩
  peak := 700
  overLength := false
  sumA := 0
  sumB := 0
  state := st
  kind := none
  cleanHalf := none
  holding := none

/-- A descriptor that starts at once and has a length of one perforation. -/
def oneMark : Descriptor := ⟨5, .immediate, 1, .restored, .bits16, false, false⟩

/-- A lane with a changed run. -/
def withRun (l : Lane) (f : Run → Run) : Lane := { l with run := f l.run }

/-! ### Well-formedness -/

/-- A command row with a payload longer than the receive framer lets through is refused (R158). -/
theorem test_wellFormed_payload : (Instr.writeTable (cmd 0 (List.replicate 1281 0))).wellFormed = false := by
  decide +kernel

/-- The longest payload is accepted (R158). -/
theorem test_wellFormed_longest : (Instr.writeTable (cmd 0 (List.replicate 1280 0))).wellFormed = true := by
  decide +kernel

/-- UNKNOWN_KIND with a command kind is refused (R162). -/
theorem test_wellFormed_knownKind : (Instr.unknownKind 0x20 (cmd 0 [])).wellFormed = false := by decide

/-- UNKNOWN_KIND with a payload that is too long is refused (R158). -/
theorem test_wellFormed_unknownPayload :
    (Instr.unknownKind 0x42 (cmd 0 (List.replicate 1281 0))).wellFormed = false := by decide +kernel

/-- An outbound kind is an unknown kind for the decoder (R162). -/
theorem test_wellFormed_outboundKind : (Instr.unknownKind 0x42 (cmd 0 [])).wellFormed = true := by decide

/-! ### The Control Link (09) -/

/-- The check of the nine characters 1 to 9 is 0x29B1 (R159). -/
theorem test_crc : crc16 [0x31, 0x32, 0x33, 0x34, 0x35, 0x36, 0x37, 0x38, 0x39] = 0x29B1 := by decide +kernel

/-- IDENTIFY at lane field 3 is answered BAD_LANE with kind 0x81 (R162). -/
theorem test_identify_badLane :
    (after (.identify (cmd 3 [])) State.reset).link.waiting = some ⟨0x81, 7, 3, [5]⟩ := by decide

/-- A wrong lane field is found before a wrong length (R162). -/
theorem test_getParam_badLane :
    (after (.getParam (cmd 8 [])) State.reset).link.waiting = some ⟨0xA1, 7, 8, [5]⟩ := by decide

/-- A frame of kind 0x40 is answered UNKNOWN_KIND with reply kind 0xFF (R162). -/
theorem test_unknownKind :
    (after (.unknownKind 0x40 (cmd 0 [])) State.reset).link.waiting = some ⟨0xFF, 7, 0, [10]⟩ := by
  decide

/-- A taken DEVICE_RESET stops the taking of commands (R10). -/
theorem test_deviceReset_taking :
    (after (.deviceReset (cmd 255 [])) State.reset).link.taking = false := by decide

/-- The overflow count is the third of the four statistics (R174). -/
theorem test_getLinkStats :
    (after (.getLinkStats (cmd 255 []))
      { State.reset with link := { Link.reset with stats := ⟨1, 2, 3, 258⟩ } }).link.waiting =
      some ⟨0x83, 7, 255, [0, 0, 0, 0, 1, 0, 0, 0, 2, 0, 0, 0, 3, 0, 0, 1, 2]⟩ := by decide

/-- GEN_RATE 100,000 is applied as 96,000 and answered CLAMPED (R22, R164). -/
theorem test_setParam_genRate :
    (after (.setParam (cmd 0 [0, 6, 0, 1, 0x86, 0xA0])) State.reset).link.waiting =
      some ⟨0xA0, 7, 0, [1, 0, 6, 0, 1, 0x77, 0]⟩ := by decide

/-- A negative value is limited to the low end: TRACK_SHIFT −1 is applied as 0 (R164). -/
theorem test_setParam_negative :
    (after (.setParam (cmd 0 [0, 17, 0xFF, 0xFF, 0xFF, 0xFF])) State.reset).link.waiting =
      some ⟨0xA0, 7, 0, [1, 0, 17, 0, 0, 0, 0]⟩ := by decide

/-- GET_PARAM of DITHER_SEED answers the default 0x5A5A5A (R143, R165). -/
theorem test_getParam_default :
    (after (.getParam (cmd 0 [0, 113])) State.reset).link.waiting =
      some ⟨0xA1, 7, 0, [0, 0, 113, 0, 0x5A, 0x5A, 0x5A]⟩ := by decide

/-- READ_TABLE of the gain table, entries 3 and 12 of the default curve apart by a count of 1 (R135). -/
theorem test_readTable_gain :
    (after (.readTable (cmd 0 [5, 0, 12, 0, 1])) State.reset).link.waiting =
      some ⟨0xA2, 7, 0, [0, 5, 0, 12, 0, 1, 0, 0, 0x40, 0]⟩ := by decide +kernel

/-- A WRITE_TABLE of the read-only DEFECT_QUEUE is answered BAD_TABLE (R168). -/
theorem test_writeTable_readOnly :
    (after (.writeTable (cmd 0 [6, 0, 0, 0, 1, 0, 0, 0, 0])) State.reset).link.waiting =
      some ⟨0xA3, 7, 0, [7]⟩ := by decide

/-- A predictor coefficient is limited to 32,767 (R125). -/
theorem test_writeTable_clamp :
    (after (.writeTable (cmd 0 [4, 0, 7, 0, 1, 0, 1, 0, 0])) State.reset).lanes[0].predictor[7]? =
      some 32767 := by decide

/-- Of a device mask only bit 0 is used: 0x80 masks nothing in (R172). -/
theorem test_setNoticeMask_device :
    (after (.setNoticeMask (cmd 255 [0x80])) State.reset).link.deviceMask = false := by decide

/-- The codes of characters that arrive, from negative disparity. -/
def arriving (cs : List LinkChar) : List Code := lineCodes .minus cs

/-- A received IDENTIFY frame enters the inbound queue; idle characters are not counted, and characters
outside the frame, an end character among them, are ignored (R159, R160). -/
theorem test_frameReceived :
    (after (.frameReceived (arriving ([.idle, .data 3, .stop, .start, .idle] ++
        (Frame.wire ⟨1, 7, 255, []⟩).map LinkChar.data ++ [.stop])))
      State.reset).link.inbound = [⟨1, 7, 255, []⟩] := by decide +kernel

/-- One wrong bit makes a frame a CRC error (R159). -/
theorem test_frameReceived_damaged :
    (after (.frameReceived (arriving ([.start] ++
        [0x01, 0x07, 0xFF, 0x00, 0x00, 0x00, 0x00].map LinkChar.data ++ [.stop])))
      State.reset).link.stats = ⟨1, 0, 0, 0⟩ := by decide +kernel

/-- A character that is not a valid code, here ten ones, makes a frame that is right without it a CRC error
(R159). -/
theorem test_frameReceived_notValid :
    (after (.frameReceived (arriving [.start] ++ [0b1111111111] ++
        lineCodes .plus ((Frame.wire ⟨1, 7, 255, []⟩).map LinkChar.data ++ [.stop])))
      State.reset).link.stats = ⟨1, 0, 0, 0⟩ := by decide +kernel

/-- Known codes of 8b/10b: D21.5, D10.2, D0.0, D31.7, D17.7 with its alternate block, and D11.7 at positive
disparity. -/
theorem test_lineCode :
    [0xB5, 0x4A, 0x00, 0xFF, 0xF1].map (dataCode .minus) =
      [0b1010101010, 0b0101010101, 0b1001110100, 0b1010110001, 0b1000110111] ∧
    dataCode .plus 0xEB = 0b1101001000 := by decide

/-- With no command and no frame the transmitter sends an idle character, K28.5, and turns its disparity
(R158). -/
theorem test_idle :
    step State.reset = .next { State.reset with
      link := { Link.reset with txLine := [0b0011111010], txDisparity := .plus } } := rfl

/-- The waiting reply enters and frees its place (R161, R171). -/
theorem test_replyEntry :
    (after .replyEntry { State.reset with
      link := { Link.reset with waiting := some ⟨0x81, 7, 255, [0]⟩ } }).link.outbound =
      [⟨0x81, 7, 255, [0]⟩] := by decide

/-- The device's notice has lane 255 and the one byte 1 (R173, Notice payload). -/
theorem test_noticeFormed_device :
    (after (.noticeFormed .device) { State.reset with
      link := { Link.reset with deviceLatch := true } }).link.outbound = [⟨0x42, 0, 255, [1]⟩] := by
  decide

/-- A sent frame's bytes: kind, tag, lane, length, payload (R158). -/
theorem test_wire : ((Frame.wire ⟨0x81, 7, 255, [0]⟩).take 6) = [0x81, 7, 255, 0, 1, 0] := by decide

/-- A sent frame is a start character K27.7, its ten bytes with kind D1.4 first, and an end character
(R158). -/
theorem test_frameSent :
    let t := after .frameSent { State.reset with
      link := { Link.reset with outbound := [⟨0x81, 7, 255, [0]⟩] } }
    (t.link.txLine.take 2, t.link.txLine.length) = ([0b1101101000, 0b0111010010], 10) ∧
      t.link.outbound = [] := by decide +kernel

/-! ### Lanes, words and instants (01) -/

/-- ENABLE_LANE of a STOPPED lane is answered WRONG_STATE (R2). -/
theorem test_enableLane_wrongState :
    (after (.enableLane (cmd 0 [])) (only (stoppedLane .nom 2000))).link.waiting =
      some ⟨0x90, 7, 0, [2]⟩ := by decide

/-- DISABLE_LANE of a STOPPED lane (R2). -/
theorem test_disableLane :
    (after (.disableLane (cmd 0 [])) (only (stoppedLane .nom 2000))).lanes[0].state = .disabled := by
  decide

/-- A run number of 255 is followed by 0 (R4). -/
theorem test_startLane_wraps :
    (after (.startLane (cmd 0 [])) (only { stoppedLane .nom 2000 with runNumber := 255 })).link.waiting =
      some ⟨0x92, 7, 0, [0, 0]⟩ := by decide +kernel

/-- A DITHER_SEED of 0 is replaced by 1 (R139). -/
theorem test_startLane_seed :
    (after (.startLane (cmd 0 [])) (only (stoppedLane .ditherSeed 0))).lanes[0].run.dither = 1 := by
  decide +kernel

/-- STOP_LANE keeps a lost signal state (R5). -/
theorem test_stopLane_signal :
    (after (.stopLane (cmd 0 [])) (only { started with
      front := { FrontEnd.reset with signal := .lost, heldEdges := [.perf] } })).lanes[0].front =
      { FrontEnd.reset with signal := .lost } := by decide +kernel

/-- RESET_LANE of a DISABLED lane empties a FINISHED slot and the latch (R6). -/
theorem test_resetLane_slots :
    (after (.resetLane (cmd 0 [])) (only { Lane.reset with
      slotA := .finished oneMark (Report.fresh 0) .length, latch := 8 })).lanes[0] = Lane.reset := by
  decide +kernel

/-- DEFAULT_LANE restores a parameter and leaves the mask (R7). -/
theorem test_defaultLane :
    (after (.defaultLane (cmd 0 [])) (only { stoppedLane .nom 300 with mask := 3 })).lanes[0] =
      { stoppedLane .nom 2000 with mask := 3 } := by decide +kernel

/-- The pairing table of 01: B, −5, OK on the pending A, 60, CLIPPED completes index 1 with
x = floor(55/2) = 27 and CLIPPED, which marks it suspect. -/
theorem test_sensorWord_pair :
    (after (.sensorWord (word 1 0 0xFFFFFB)) (only { startedLane .railMode 1 with
      front := { FrontEnd.start with pendingA := some ⟨60, .clipped⟩, nextIndex := 1 } })).lanes[0].run.resampler.prev =
      some ⟨27, some ⟨60, -5⟩, true, 1⟩ := by decide +kernel

/-- The pairing table of 01: B, −4, OK on the pending A, −3, DARK has x = floor(−7/2) = −4. -/
theorem test_sensorWord_pairDark :
    (after (.sensorWord (word 1 0 0xFFFFFC)) (only { startedLane .railMode 1 with
      front := { FrontEnd.start with pendingA := some ⟨-3, .dark⟩, nextIndex := 2 } })).lanes[0].run.resampler.prev =
      some ⟨-4, some ⟨-3, -4⟩, true, 2⟩ := by decide +kernel

/-- An edge is held for the next instant (R20). -/
theorem test_perfEdge :
    (after (.perfEdge 0) (only started)).lanes[0].front.heldEdges = [.perf] := by decide +kernel

/-- An edge of a STOPPED lane is discarded (R20). -/
theorem test_spliceEdge_stopped :
    (after (.spliceEdge 0) (only (stoppedLane .nom 2000))).lanes[0].front.heldEdges = [] := by
  decide +kernel

/-- The triangle of 01: period 8, amplitude 1,000. -/
theorem test_triangle :
    [0, 1, 2, 3, 4, 5, 6, 7].map (triangle 8 1000) = [-1000, -500, 0, 500, 1000, 500, 0, -500] := by
  decide

/-- The generator table of 01: at instant 4 the fifth value 1,000 is an impulse instant of height 4,000:
half A 5,000, half B 1,000, x 3,000. -/
theorem test_generatorInstant :
    generatedValues true 1000 4000 (Generator.impulse ⟨4, 4, 1, 1⟩ 5) = (3000, some ⟨5000, 1000⟩) := by
  decide

/-- The first generated instant carries the first synthetic perforation, which becomes the tracker's mark
(R24, R27). -/
theorem test_generatorInstant_mark :
    (after (.generatorInstant 0) (only (startedLane .source 1))).lanes[0].run.tracker.lastMark =
      some 0 := by decide +kernel

/-- The 64th consecutive DARK instant loses the signal and is LOST itself (R16). -/
theorem test_signalLost :
    (after (.signalLost (.word (word 0 2 0))) (only { started with
      front := { FrontEnd.start with darkRun := 63 } })).lanes[0].front.signal = .lost := by
  decide +kernel

/-- The 63rd is not a loss, and the row names nothing that happens (R16; assumption 4). -/
theorem test_signalLost_early :
    (after (.signalLost (.word (word 0 2 0))) (only { started with
      front := { FrontEnd.start with darkRun := 62 } })).lanes[0].front.darkRun = 62 := by
  decide +kernel

/-- The 64th consecutive instant that is not DARK recovers the signal and settles the detector anew
(R16, R88). -/
theorem test_signalRecovered :
    (after (.signalRecovered (.word (word 0 1 0))) (only { withRun started (fun r =>
        { r with detector := { r.detector with settle := 0 } }) with
      front := { FrontEnd.start with signal := .lost, recoveryRun := 63 } })).lanes[0].run.detector.settle =
      64 := by decide +kernel

/-! ### Tracking and resampling (02) -/

/-- The acquisition table of 02: at 16,700 the fourth matching interval locks the tracker. -/
theorem test_trackLock :
    (Tracker.mk .acquiring 512000 (some 14700) 3 0).onEdge 2000 3 16700 =
      (⟨.locked, 512000, some 16700, 4, 0⟩, .acquiringMark) := by decide

/-- The acquisition table of 02: at 6,700 the interval 203,520 does not match, and E is limited to
256,000. -/
theorem test_trackAcquire :
    (Tracker.mk .acquiring 512000 (some 5905) 3 0).onEdge 2000 3 6700 =
      (⟨.acquiring, 256000, some 6700, 0, 0⟩, .acquiringMark) := by decide

/-- The locked table of 02: 23,985 is normal, 22,390 spurious, 26,885 an outlier. -/
theorem test_trackLocked :
    (Tracker.mk .locked 511680 (some 21990) 4 0).onEdge 2000 3 23985 =
        (⟨.locked, 511560, some 23985, 4, 0⟩, .normal) ∧
      ((Tracker.mk .locked 511680 (some 21990) 4 0).onEdge 2000 3 22390).2 = .spurious ∧
      (Tracker.mk .locked 511560 (some 23985) 4 0).onEdge 2000 3 26885 =
        (⟨.locked, 511560, some 26885, 4, 1⟩, .outlier) := by decide

/-- The fourth outlier is the first mark of a new acquisition (R31). -/
theorem test_outlierLossOfLock :
    (Tracker.mk .locked 512000 (some 1000) 4 3).onEdge 2000 3 4000 =
      (⟨.acquiring, 512000, some 4000, 0, 4⟩, .outlier) := by decide

/-- The edge that ends HOLDOVER leaves E and the acquisition run (R27): a tracker that was LOCKED before it
keeps its run of 4, and the next matching interval locks it again (R28). -/
theorem test_holdoverEnds :
    (Tracker.mk .holdover 512000 (some 1000) 4 0).onEdge 2000 3 9000 =
        (⟨.acquiring, 512000, some 9000, 4, 0⟩, .firstMark) ∧
      ((Tracker.mk .acquiring 512000 (some 9000) 4 0).onEdge 2000 3 11000).1 =
        ⟨.locked, 512000, some 11000, 4, 0⟩ := by decide

/-- The holdover table of 02: a = 5,993 is not above 3·E/256, a = 5,994 is. -/
theorem test_trackTimeout :
    ((Tracker.mk .locked 511455 (some 28880) 4 0).timeout 3 34873).state = .locked ∧
      ((Tracker.mk .locked 511455 (some 28880) 4 0).timeout 3 34874).state = .holdover := by decide

/-- The stepping table of 02: Δ for E = 512 instants of 1/256 and P = 5, and the values of outputs 1, 4, 7
and 9. -/
theorem test_resample :
    stepOf 512 5 = 26214 ∧ interpolate 800 1000 26214 = 879 ∧ interpolate 1000 1400 39320 = 1239 ∧
      interpolate 1400 1200 52426 = 1240 ∧ interpolate 1200 900 39318 = 1020 := by decide

/-- A mark at instant 2 is carried by the output at 157,284 and not by the one at 131,070 (02, the stepping
table). -/
theorem test_resample_mark : reached 157284 2 = true ∧ reached 131070 2 = false := by decide

/-! ### The ring, the templates and the detector (03, 04, 05) -/

/-- LONG_POLICY of 03: PASS, ATTENUATE and MUTE on −5 and 6. -/
theorem test_longPolicy :
    [0, 1, 2].map (fun p => longValue p (-5)) = [-5, -2, 0] ∧
      [0, 1, 2].map (fun p => longValue p 6) = [6, 1, 0] := by decide

/-- The index table of 04 with P = 100: 99 stays at 99 in LOCKED and wraps in HOLDOVER; a mark gives 0. -/
theorem test_indices :
    nextSprocket 100 99 false false = 99 ∧ nextSprocket 100 99 false true = 0 ∧
      nextSprocket 100 50 true false = 0 ∧ nextLine 960 959 = 0 := by decide

/-- The subtraction table of 04, with SPROCKET_DEPTH 192: x = 1,000 with tS = 41 and tL = 0 or −12 at
LINE_DEPTH 256, and the clamp. -/
theorem test_subtract :
    subtractHum 1000 192 41 256 0 = 969 ∧ subtractHum 1000 192 41 256 (-12) = 981 ∧
      subtractHum 1000 192 (-41) 256 0 = 1031 ∧ subtractHum 500 192 (-3) 256 0 = 502 ∧
      subtractHum 8380000 192 (-13333) 256 0 = 8388607 := by decide

/-- The learning steps of 04: 10,240 toward 56 at λ = 4, and the asymmetry of the steps toward −3 and 3. -/
theorem test_learn :
    learnStep 10240 56 4 = 10496 ∧ standsFor 10496 = 41 ∧
      learnStep (-93) (-3) 4 = -136 ∧ learnStep 93 3 4 = 135 := by decide

/-- The boundary of 04: the count reaches W and the template swaps, its accumulators limited with it. -/
theorem test_templateSwap :
    Template.boundary ⟨[0, 0], [10496, 2147483392], 3⟩ 4 =
      (⟨[41, 8388607], [10496, 2147483392], 0⟩, true) := by decide

/-- The detector table of 05: e and v at 5,010 and 5,011 pass the impulse test, the 1,600 before does not.
The floor is 64 and the factor 24 quarters; the mean is 1,600. -/
theorem test_impulse :
    secondDiff 800 50 0 = 700 ∧ passes 11200 64 24 1600 = true ∧ secondDiff 50 800 50 = -1500 ∧
      passes 1600 64 24 1600 = false := by decide

/-- The case of R85 and R87: with M = 160 and Aa = 1,280, halves of 1,400 and 620 pass at the factor 16; then
a half difference of 15 leaves M and takes Aa to 1,261. -/
theorem test_asymmetry :
    let d : Detector := { started.run.detector with meanM := 160, envAa := 1280 }
    let l := withRun (startedLane .railMode 1) fun r => { r with detector := d }
    firingCauses l false ⟨none, some (16 * (1400 - 620)), 0, 0⟩ (entryAt 7) = ⟨false, true, false, false⟩ ∧
      (d.learn ⟨none, some (16 * 15), 0, 0⟩).meanM = 160 ∧
      (d.learn ⟨none, some (16 * 15), 0, 0⟩).envAa = 1261 := by decide +kernel

/-- R90: with the last end two positions before, the new record starts at n − 1, and the run's first
entry opens at its own position. -/
theorem test_openingStart :
    openingStart true (some 5020) 5023 1000 = 5021 ∧ openingStart true (some 5021) 5023 1000 = 5022 ∧
      openingStart true none 1 1 = 0 := by decide

/-- R90: a last end a whole turn of the positions before n does not raise the start. -/
theorem test_openingStart_wholeTurn :
    openingStart true (some 5023) 5023 1000 = 5021 ∧ openingStart true (some 5022) 5023 1000 = 5023 := by
  decide

/-- R93: at end + 8 the record closes, and at end + 7 it does not. -/
theorem test_recordClose :
    let w : Work := (only (withRun started fun r =>
      { r with queue := ⟨[recordOver 5008 5014 .opened], false⟩ })).work 0
    ((closingTest w 5022).lane.run.queue.records.map (·.state)) = [.queued] ∧
      ((closingTest w 5021).lane.run.queue.records.map (·.state)) = [.opened] := by decide +kernel

/-! ### Repair (06) -/

/-- R_g of 06 for g = 1, 2, 3, 13, 24 and 48. -/
theorem test_reciprocal :
    [1, 2, 3, 13, 24, 48].map reciprocal = [32768, 21845, 16384, 4681, 2621, 1337] := by decide

/-- The gap of three of 06: predictions and blends. -/
theorem test_interpolate :
    let job : Job := ⟨0, 1, 7, 3, .interpolate [0, 0, 0, 0, 0, 0, 900, 1000] [1150, 1100, 0, 0, 0, 0, 0, 0]
      [8192, -4096, 0, 0, 0, 0, 0, 0]⟩
    forward [8192, -4096, 0, 0, 0, 0, 0, 0] [0, 0, 0, 0, 0, 0, 900, 1000] 3 = [1100, 1200, 1300] ∧
      backward [8192, -4096, 0, 0, 0, 0, 0, 0] [1150, 1100, 0, 0, 0, 0, 0, 0] 3 = [1300, 1250, 1200] ∧
      job.results = [1150, 1225, 1225] := by decide

/-- The gap of two of 06, with the predictor that holds: 600 and 700. -/
theorem test_interpolate_held :
    (Job.mk 0 1 7 2 (.interpolate [0, 0, 0, 0, 0, 0, 0, 500] [800, 0, 0, 0, 0, 0, 0, 0]
      [4096, 0, 0, 0, 0, 0, 0, 0])).results = [600, 700] := by decide

/-- The round-robin table of 06: after lane 5 with lanes 0 and 2 eligible, lane 0 is served, and both banks
EMPTY take Bank 0 first. -/
theorem test_jobLoad :
    let l := withRun started fun r => { r with queue := ⟨[recordOver 0 4 .queued], false⟩ }
    let s := { (only l).withLane 2 l with engine := { Engine.reset with pointer := 5 } }
    (after .jobLoad s).engine.pointer = 0 ∧ (after .jobLoad s).engine.banks[0].isRunning = true := by
  decide +kernel

/-- Completion of Bank 0 starts the job LOADED in Bank 1 (06, the bank table). -/
theorem test_jobCompletion :
    let job : Job := ⟨0, 1, 7, 1, .half .a [(600, 590, 618)]⟩
    (after .jobCompletion { State.reset with
      engine := ⟨#v[.running job, .loaded job], 0, []⟩ }).engine =
      ⟨#v[.finished job [608], .running job], 0, [0]⟩ := by decide +kernel

/-- A job of an earlier run writes nothing and its bank is EMPTY (06, the run number table). -/
theorem test_writeBack_oldRun :
    let job : Job := ⟨0, 5, 0, 1, .half .a [(0, 0, 0)]⟩
    (after .writeBack { only { started with runNumber := 6 } with
      engine := ⟨#v[.empty, .finished job [0]], 0, [1]⟩ }).engine = ⟨#v[.empty, .empty], 0, []⟩ := by
  decide +kernel

/-! ### Hiss reduction, output and segments (07, 08) -/

/-- The two departures of 07: band split, level, gain and restored value. -/
theorem test_hiss :
    HissReducer.split ⟨1000, 4000, 1600, 20000, 0, none⟩ 1080 3 2 8 =
        ⟨1010, 3988, 1600, 20000, 0, none⟩ ∧
      gainIndex 3988 1600 = 19 ∧ smoothGain 20000 25941 = 20742 ∧ restore 1010 70 20742 = 1054 ∧
      HissReducer.split ⟨1010, 3988, 1600, 20742, 0, none⟩ (-2000) 3 2 8 =
        ⟨633, 13523, 1600, 20742, 0, none⟩ ∧
      gainIndex 13523 1600 = 63 ∧ smoothGain 20742 32768 = 22245 ∧
      restore 633 (-2633) 22245 = -1154 := by decide

/-- The floor table of 07. -/
theorem test_floorUpdate :
    riseFloor 1600 1200 6 = 1200 ∧ riseFloor 1200 2000 6 = 1212 ∧ riseFloor 1212 2000 6 = 1224 ∧
      riseFloor 1224 0 6 = 1 ∧ riseFloor 1 1500 6 = 24 := by decide

/-- The gain table of 07 at k = 0, 3, 6, 12, 19, 23 and 24. -/
theorem test_gainCurve :
    [0, 3, 6, 12, 19, 23, 24].map (fun k => (gainCurve 24 2)[k]?) =
      [some 8192, some 8192, some 8192, some 16384, some 25941, some 31402, some 32768] := by
  decide +kernel

/-- The dither example of 07 from the default seed: the draws 170, 170, 208 and 0, and the two outputs. -/
theorem test_dither :
    let s₁ := ditherDraw 0x5A5A5A
    let s₂ := ditherDraw s₁
    let s₃ := ditherDraw s₂
    [s₁, s₂, s₃, ditherDraw s₃].map drawn = [170, 170, 208, 0] ∧
      convert .bits16 1000000 0 = 3906 ∧ convert .bits16 1000000 208 = 3907 := by decide +kernel

/-- END_SEGMENT on a RUNNING slot sets its end request (08, R150). -/
theorem test_endSegment_running :
    (after (.endSegment (cmd 0 [1])) (only { started with
      slotB := .running oneMark (Report.fresh 0) false 0 })).lanes[0].slotB =
      .running oneMark (Report.fresh 0) true 0 := by decide +kernel

/-- COLLECT_REPORT of slot code 2 is answered BAD_RANGE (R152). -/
theorem test_collectReport_badSlot :
    (after (.collectReport (cmd 0 [2])) State.reset).link.waiting = some ⟨0xB2, 7, 0, [8]⟩ := by decide

/-- LOAD_SEGMENT with start code 9 applies AT_SPLICE, and answers CLAMPED with the slot and the applied
descriptor (R145, Descriptor). -/
theorem test_loadSegment_clamped :
    (after (.loadSegment (cmd 0 [0, 5, 9, 0, 0, 1, 0, 0, 0, 0])) (only (stoppedLane .nom 2000))).link.waiting =
      some ⟨0xB0, 7, 0, [1, 0, 0, 5, 2, 0, 0, 1, 0, 0, 0, 0]⟩ := by decide +kernel

/-- A segment of length 1 that has counted no mark ends before the entry of the next one, with LENGTH
(R149, R151). -/
theorem test_segmentLengthEnd :
    let w : Work := (only { started with
      slotA := .running oneMark (Report.fresh 1500) false 0 }).work 0
    (judge w { entryAt 2000 with perfMark := true } 0).lane.slotA =
      .finished oneMark (Report.fresh 1500) .length := by decide +kernel

/-- QUERY_LANE of a DISABLED lane after reset: E is 256·NOM = 512,000 (R25, R169). -/
theorem test_queryLane :
    (after (.queryLane (cmd 0 [])) State.reset).link.waiting =
      some ⟨0x96, 7, 0, [0, 0, 0, 0, 0, 0x07, 0xD0, 0, 0, 0, 0, 0, 0, 0, 0, 0]⟩ := by decide +kernel

/-- A falling RESETn holds the part in reset, and a word then changes nothing (R9). -/
theorem test_resetn :
    (after (.sensorWord (word 0 0 5)) (after .resetnAsserted (only started))).lanes[0].state =
      .disabled ∧ (after .resetnReleased (after .resetnAsserted (only started))).resetHeld = false := by
  decide +kernel

/-! ### Witnesses for the statements' hypotheses

`witness_<Name>` gives, for each clause of Obligations.<Name> that has hypotheses, states and operands that
meet all of them together; `witness_<Name>_<part>` does so for a further part of it. -/

theorem witness_StepTakesFrontCommand :
    ({ State.reset with pending := [.frameSent, .jobLoad] } : State).pending = [.frameSent, .jobLoad] ∧
      (State.reset.pending = [] ∧ State.reset.resetHeld = false ∧ State.reset.link.outbound = []) ∧
      ({ State.reset with resetHeld := true } : State).resetHeld = true ∧
      ({ State.reset with link := { Link.reset with outbound := [⟨0x42, 0, 255, [1]⟩] } } :
        State).link.outbound ≠ [] := ⟨rfl, by decide, rfl, by decide⟩

/-- Both cases of taking: the frame in front of the queue, and another one in front. -/
theorem witness_CommandsTakenInTurn :
    (0x16, Instr.queryLane) ∈ commandRows ∧ State.reset.Takes 0x16 (cmd 0 []) ∧
      ({ State.reset with link := { Link.reset with inbound := [⟨0x16, 7, 0, []⟩, ⟨1, 7, 255, []⟩] } } :
        State).Takes 0x16 (cmd 0 []) ∧
      ¬ ({ State.reset with link := { Link.reset with inbound := [⟨1, 7, 255, []⟩] } } :
        State).Takes 0x16 (cmd 0 []) := by
  refine ⟨by simp [commandRows, laneRows], ?_, ?_, ?_⟩ <;> decide

theorem witness_FrameChecksInOrder :
    ((0x00 : Byte) ∉ [0x01, 0x02, 0x03, 0x04, 0x10, 0x11, 0x12, 0x13, 0x14, 0x15, 0x16, 0x17, 0x20,
        0x21, 0x22, 0x23, 0x30, 0x31, (0x32 : Byte)] ∧ State.reset.Takes 0x00 (cmd 0 [])) ∧
    ((0x01, Instr.identify) ∈ deviceRows ∧ State.reset.Takes 0x01 (cmd 254 []) ∧
      (cmd 254 []).lane ≠ 255 ∧ State.reset.Takes 0x01 (cmd 255 [0]) ∧ (cmd 255 [0]).payload ≠ []) ∧
    ((0x21, 2, Instr.getParam) ∈ laneRows ∧ State.reset.Takes 0x21 (cmd 8 []) ∧
      8 ≤ (cmd 8 []).lane.toNat ∧ State.reset.Takes 0x21 (cmd 7 [0]) ∧
      (cmd 7 [0]).lane.toNat < 8 ∧ (cmd 7 [0]).payload.length ≠ 2) ∧
    (State.reset.Takes 0x17 (cmd 254 [1]) ∧ 8 ≤ (cmd 254 [1]).lane.toNat ∧
      (cmd 254 [1]).lane ≠ 255 ∧ State.reset.Takes 0x17 (cmd 255 []) ∧
      (cmd 255 []).payload.length ≠ 1) ∧
    (State.reset.Takes 0x23 (cmd 8 []) ∧ State.reset.Takes 0x23 (cmd 7 [0, 0, 0, 0]) ∧
      (cmd 7 [0, 0, 0, 0]).payload.length < 5) := by
  refine ⟨by decide, ⟨by simp [deviceRows], by decide⟩, ⟨by simp [laneRows], by decide⟩, by decide,
    by decide⟩

theorem witness_IdentifyReplies :
    State.reset.Takes 0x01 (cmd 255 []) ∧ (cmd 255 []).lane = 255 ∧ (cmd 255 []).payload = [] := by
  decide

theorem witness_DeviceResetTakesAndResets :
    (State.reset.Takes 0x02 (cmd 255 []) ∧ (cmd 255 []).lane = 255 ∧ (cmd 255 []).payload = []) ∧
    ∃ (s : State) (f : Frame) (rest : List Frame), s.resetHeld = false ∧ s.link.taking = false ∧
      s.link.outbound = f :: rest ∧ f.kind = 0x82 ∧ f.payload = [0] :=
  ⟨by decide, { State.reset with link := { Link.reset with taking := false, outbound := [⟨0x82, 7, 255, [0]⟩] } },
    ⟨0x82, 7, 255, [0]⟩, [], by decide⟩

theorem witness_ResetLineHoldsAndReleases :
    ({ State.reset with resetHeld := true } : State).resetHeld = true ∧
      Instr.writeBack ≠ .resetnAsserted ∧ Instr.writeBack ≠ .resetnReleased := ⟨rfl, by decide, by decide⟩

theorem witness_StatisticsAndSnapshot :
    State.reset.Takes 0x03 (cmd 255 []) ∧ State.reset.Takes 0x04 (cmd 255 []) ∧
      (cmd 255 []).lane = 255 ∧ (cmd 255 []).payload = [] := by decide

theorem witness_StatisticsAndSnapshot_lane :
    (cmd 0 []).lane.toNat = (0 : LaneId).val ∧ (cmd 0 []).payload = [] ∧
      State.reset.Takes 0x16 (cmd 0 []) ∧ State.reset.lanes[0].state ≠ .running ∧
      (only started).Takes 0x16 (cmd 0 []) ∧ (only started).lanes[0].state = .running := by
  decide +kernel

theorem witness_FrameWireRoundTrip : ∃ f : Frame, f.payload.length = 65535 ∧ f.payload.length ≤ 65535 :=
  ⟨⟨0, 0, 0, List.replicate 65535 0⟩, List.length_replicate, Nat.le_of_eq List.length_replicate⟩

/-- An idle and an end character before the frame, and a second start character in it. -/
theorem witness_FrameWireRoundTrip_framed :
    (∀ c ∈ arriving [.idle, .stop], c ≠ 0b1101101000 ∧ c ≠ 0b0010010111) ∧
      LinkChar.stop ∉ [LinkChar.data 5, .start, .idle] := by decide +kernel

/-- A queue of seven frames takes one more, and a queue of eight does not; and codes without a frame. -/
theorem witness_ReceivedFramesAreJudged :
    let f : Frame := ⟨1, 7, 255, []⟩
    let held (n : Nat) : State := { State.reset with link := { Link.reset with inbound := List.replicate n f } }
    let cs := LinkChar.idle :: f.wire.map LinkChar.data
    (held 7).resetHeld = false ∧ f.payload.length ≤ 1280 ∧
      framed (arriving ([.start] ++ cs ++ [.stop])) = some (cs.map some) ∧
      (cs.map some).filter (fun ch => decide (ch ≠ some .idle)) = f.wire.map (fun b => some (.data b)) ∧
      (held 7).link.inbound.length < 8 ∧ (held 8).resetHeld = false ∧
      8 ≤ (held 8).link.inbound.length ∧ framed (arriving [.idle, .stop]) = none := by decide +kernel

/-- What is collected of six zero bytes with a second start character, of codes that are not valid, and of
1,287 and 1,288 zero bytes. -/
theorem witness_ReceivedFramesAreJudged_collected :
    framed (arriving ([.start] ++ List.replicate 6 (.data 0) ++ [.start, .stop])) =
        some (List.replicate 6 (some (.data 0)) ++ [some .start]) ∧
      framed (arriving [.start] ++ [0] ++ arriving [.stop]) = some [none] ∧
      (framed (arriving ([.start] ++ List.replicate 1287 (.data 0x4A) ++ [.stop]))).elim 0
        (fun cs => (dataBytes cs).length) = 1287 ∧
      (framed (arriving ([.start] ++ List.replicate 1288 (.data 0x4A) ++ [.stop]))).elim 0
        (fun cs => (dataBytes cs).length) = 1288 := by decide +kernel

/-- 1,288 bytes are oversize; 1,287 with an invalid code, a second start character, six bytes, and seven
bytes with a wrong length field are damage. -/
theorem witness_ReceivedFramesAreJudged_damaged :
    let bytes (n : Nat) : List (Option LinkChar) := List.replicate n (some (.data 0x4A))
    let short : List (Option LinkChar) := [1, 7, 255, 0, 1, 0, 0].map fun b => some (.data b)
    State.reset.resetHeld = false ∧
      1287 < (dataBytes (bytes 1288)).length ∧
      (dataBytes (none :: bytes 1287)).length ≤ 1287 ∧ none ∈ none :: bytes 1287 ∧
      some LinkChar.start ∈ [some (LinkChar.data 1), some .start] ∧
      (dataBytes (bytes 6)).length < 7 ∧
      ((dataBytes short).length ≤ 1287 ∧
        ∀ f : Frame, f.payload.length ≤ 1280 → f.wire ≠ dataBytes short) := by
  refine ⟨rfl, by decide +kernel, by decide +kernel, List.mem_cons_self, by decide, by decide, by decide, ?_⟩
  intro f _ h
  have hl := congrArg List.length h
  rw [show dataBytes ([1, 7, 255, 0, 1, 0, 0].map fun b => some (LinkChar.data b)) =
    [1, 7, 255, 0, 1, 0, 0] from rfl] at h hl
  obtain ⟨k, t, l, p⟩ := f
  have hp : p = [] := by simpa [Frame.wire, Frame.body, be] using hl
  subst hp
  simp [Frame.wire, Frame.body, be] at h

/-- A queue that holds a frame of n payload bytes. -/
def loaded (n : Nat) : List Frame := [⟨0, 0, 0, List.replicate n 0⟩]

theorem used_loaded (n : Nat) : usedBytes (loaded n) = n + 7 := by
  simp [usedBytes, loaded, Frame.bytes, Config.frameOverhead]

/-- For each of the three offers: a queue in which the frame just fits, and one with a byte more. -/
theorem witness_OutboundAdmissionAndSending :
    let f : Frame := ⟨0x81, 7, 255, [0]⟩
    let held (n : Nat) : State :=
      { State.reset with link := { Link.reset with outbound := loaded n, waiting := some f } }
    let w (n : Nat) : Work := { State.reset.work 0 with outbound := loaded n }
    ((held 65521).resetHeld = false ∧ (held 65521).link.waiting = some f ∧
      usedBytes (held 65521).link.outbound + (f.payload.length + 7) ≤ 65536 ∧
      (held 65522).resetHeld = false ∧ (held 65522).link.waiting = some f ∧
      65536 < usedBytes (held 65522).link.outbound + (f.payload.length + 7)) ∧
    (usedBytes (w 61414).outbound + ((streamBlock 0 oneMark 0 [1]).payload.length + 7) + 4096 ≤ 65536 ∧
      65536 < usedBytes (w 61415).outbound + ((streamBlock 0 oneMark 0 [1]).payload.length + 7) + 4096) ∧
    (usedBytes (w 61408).outbound + 25 + 4096 ≤ 65536 ∧
      65536 < usedBytes (w 61409).outbound + 25 + 4096) := by
  have h : (streamBlock 0 oneMark 0 [1]).payload.length = 12 := by decide
  simp only [used_loaded, h]
  decide +kernel

theorem witness_NoticesAndMasks :
    let held (n : Nat) : State :=
      { only { started with latch := 1 } with
        link := { Link.reset with outbound := loaded n, deviceLatch := true } }
    ((held 65517).resetHeld = false ∧ (held 65517).lanes[0].latch ≠ 0 ∧
      usedBytes (held 65517).link.outbound + 12 ≤ 65536 ∧
      65536 < usedBytes (held 65518).link.outbound + 12 ∧ State.reset.lanes[0].latch = 0) ∧
    ((held 65521).link.deviceLatch = true ∧ usedBytes (held 65521).link.outbound + 8 ≤ 65536 ∧
      65536 < usedBytes (held 65522).link.outbound + 8 ∧ State.reset.link.deviceLatch = false) := by
  simp only [used_loaded]
  decide +kernel

theorem witness_OutboundAdmissionAndSending_sent :
    ∃ (s : State) (f : Frame) (rest : List Frame), s.resetHeld = false ∧ s.link.outbound = f :: rest ∧
      s.link.taking = true ∧ f.kind = 0x82 ∧ f.payload = [0] :=
  ⟨{ State.reset with link := { Link.reset with outbound := [⟨0x82, 7, 255, [0]⟩, ⟨0x42, 0, 255, [1]⟩] } },
    ⟨0x82, 7, 255, [0]⟩, [⟨0x42, 0, 255, [1]⟩], by decide⟩

/-! #### Lane commands -/

theorem witness_LaneStatesAndRefusals :
    (cmd 0 []).lane.toNat = (0 : LaneId).val ∧ (cmd 0 []).payload = [] ∧
      State.reset.Takes 0x10 (cmd 0 []) ∧ State.reset.lanes[0].state = .disabled ∧
      (only started).Takes 0x10 (cmd 0 []) ∧ (only started).lanes[0].state ≠ .disabled ∧
      (only (stoppedLane .nom 2000)).Takes 0x11 (cmd 0 []) ∧
      (only (stoppedLane .nom 2000)).lanes[0].state = .stopped ∧
      State.reset.Takes 0x11 (cmd 0 []) ∧ State.reset.lanes[0].state ≠ .stopped := by decide +kernel

theorem witness_StartLaneEffects :
    (only (stoppedLane .nom 2000)).Takes 0x12 (cmd 0 []) ∧
      (cmd 0 []).lane.toNat = (0 : LaneId).val ∧ (cmd 0 []).payload = [] ∧
      (only (stoppedLane .nom 2000)).lanes[0].state = .stopped := by decide +kernel

theorem witness_LaneStatesAndRefusals_refused :
    (cmd 0 []).lane.toNat = (0 : LaneId).val ∧ (cmd 0 []).payload = [] ∧
      (only started).Takes 0x12 (cmd 0 []) ∧ (only started).lanes[0].state ≠ .stopped ∧
      State.reset.Takes 0x13 (cmd 0 []) ∧ State.reset.lanes[0].state ≠ .running ∧
      (only started).Takes 0x15 (cmd 0 []) ∧ (only started).lanes[0].state = .running := by
  decide +kernel

/-- A RUNNING lane without a segment, with one whose block is empty, and with one whose block of one sample
just fits and just does not fit. -/
theorem witness_StopLaneEffects :
    let seg (block : List Int) : Lane :=
      { withRun started fun r => { r with former := ⟨1, 0, block⟩ } with
        slotA := .running oneMark (Report.fresh 0) false 0 }
    let held (n : Nat) : State := { only (seg [1]) with link := { Link.reset with outbound := loaded n } }
    ((only started).Takes 0x13 (cmd 0 []) ∧ (cmd 0 []).lane.toNat = (0 : LaneId).val ∧
      (cmd 0 []).payload = [] ∧ (only started).lanes[0].state = .running ∧
      (only started).lanes[0].runningSlot = none) ∧
    ((only (seg [])).Takes 0x13 (cmd 0 []) ∧ (only (seg [])).lanes[0].state = .running ∧
      (only (seg [])).lanes[0].runningSlot = some .a ∧
      (only (seg [])).lanes[0].slot .a = .running oneMark (Report.fresh 0) false 0 ∧
      (only (seg [])).lanes[0].run.former.block = []) ∧
    ((held 61414).Takes 0x13 (cmd 0 []) ∧ (held 61414).lanes[0].state = .running ∧
      (held 61414).lanes[0].runningSlot = some .a ∧
      (held 61414).lanes[0].run.former.block = [1] ∧
      usedBytes (held 61414).link.outbound + ((streamBlock 0 oneMark 0 [1]).payload.length + 7) + 4096 ≤
        65536 ∧
      65536 < usedBytes (held 61415).link.outbound +
        ((streamBlock 0 oneMark 0 [1]).payload.length + 7) + 4096) := by
  have h : (streamBlock 0 oneMark 0 [1]).payload.length = 12 := by decide
  simp only [used_loaded, h]
  decide +kernel

/-- A lane that is not RUNNING; and, as for STOP_LANE, a RUNNING one without a segment, with one whose block is
empty, and with one whose block of one sample just fits and just does not fit. -/
theorem witness_ResetLaneEffects :
    (cmd 0 []).lane.toNat = (0 : LaneId).val ∧ (cmd 0 []).payload = [] ∧
      State.reset.Takes 0x14 (cmd 0 []) ∧ State.reset.lanes[0].state ≠ .running ∧
      (only started).Takes 0x14 (cmd 0 []) ∧ (only started).lanes[0].state = .running ∧
      (only started).lanes[0].runningSlot = none ∧
      let seg (block : List Int) : State :=
        only { withRun started fun r => { r with former := ⟨1, 0, block⟩ } with
          slotA := .running oneMark (Report.fresh 0) false 0 }
      (∀ block ∈ [[], [(1 : Int)]],
        (seg block).Takes 0x14 (cmd 0 []) ∧ (seg block).lanes[0].state = .running ∧
          (seg block).lanes[0].runningSlot = some .a ∧
          (seg block).lanes[0].slot .a = .running oneMark (Report.fresh 0) false 0 ∧
          (seg block).lanes[0].run.former.block = block) ∧
      usedBytes (loaded 61414) + ((streamBlock 0 oneMark 0 [1]).payload.length + 7) + 4096 ≤ 65536 ∧
      65536 < usedBytes (loaded 61415) + ((streamBlock 0 oneMark 0 [1]).payload.length + 7) + 4096 := by
  have h : (streamBlock 0 oneMark 0 [1]).payload.length = 12 := by decide
  simp only [used_loaded, h]
  decide +kernel

theorem witness_NoticesAndMasks_command :
    State.reset.Takes 0x17 (cmd 7 [0xFF]) ∧ (cmd 7 [0xFF]).payload = [0xFF] ∧
      (cmd 7 [0xFF]).lane.toNat = (7 : LaneId).val ∧
      State.reset.Takes 0x17 (cmd 255 [1]) ∧ (cmd 255 [1]).payload = [1] ∧
      (cmd 255 [1]).lane = 255 := by decide +kernel

/-! #### Parameters, tables and segment commands -/

/-- TRACK_SHIFT at the ends of its range and one beyond, GEN_RATE between two listed rates. -/
theorem witness_SetParamStoresApplied :
    let payload (p : Param) (v : Int) := be 2 p.row.id ++ beInt 4 v
    (∀ va ∈ [((0 : Int), (0 : Int)), (6, 6), (7, 6), (-1, 0), (2147483647, 6)],
      (only started).Takes 0x20 (cmd 0 (payload .trackShift va.1)) ∧
      -2147483648 ≤ va.1 ∧ va.1 ≤ 2147483647 ∧
      ¬(Param.trackShift.row.stoppedOnly = true ∧ (only started).lanes[0].state = .running) ∧
      va.2 = (if va.1 < Param.trackShift.row.low then Param.trackShift.row.low
        else if Param.trackShift.row.high < va.1 then Param.trackShift.row.high else va.1)) ∧
    (cmd 0 []).lane.toNat = (0 : LaneId).val ∧
    (State.reset.Takes 0x20 (cmd 0 (payload .genRate 100000)) ∧
      ¬(Param.genRate.row.stoppedOnly = true ∧ State.reset.lanes[0].state = .running) ∧
      (96000 : Int) = ((([48000, 96000, 192000, 384000, 768000] : List Int).filter
        (· ≤ 100000)).getLast?).getD 48000) := by decide +kernel

/-- The gain curve's parameters at the ends of their ranges, and a new template length. -/
theorem witness_SetParamStoresApplied_curve :
    ∀ x ∈ [(Param.hissOpen, (0 : Int), (1 : Int)), (.hissOpen, 63, 63), (.hissDepth, 0, 0),
        (.hissDepth, 5, 4), (.samplesPerPerf, 100, 100), (.linePeriod, 2001, 2000)],
      State.reset.Takes 0x20 (cmd 0 (be 2 x.1.row.id ++ beInt 4 x.2.1)) ∧
        ¬(x.1.row.stoppedOnly = true ∧ State.reset.lanes[0].state = .running) ∧ x.1 ≠ .genRate ∧
        x.2.2 = (if x.2.1 < x.1.row.low then x.1.row.low
          else if x.1.row.high < x.2.1 then x.1.row.high else x.2.1) := by decide +kernel

theorem witness_ParametersReadAndDefaulted :
    (cmd 0 []).lane.toNat = (0 : LaneId).val ∧
      (State.reset.Takes 0x21 (cmd 0 (be 2 Param.nom.row.id))) ∧
      (State.reset.Takes 0x21 (cmd 0 (be 2 65535)) ∧ 65535 < 65536 ∧
        ∀ p ∈ Param.all, p.row.id ≠ 65535) ∧
      (State.reset.Takes 0x20 (cmd 0 (be 2 0 ++ beInt 4 5)) ∧ ∀ p ∈ Param.all, p.row.id ≠ 0) ∧
      ((only started).Takes 0x20 (cmd 0 (be 2 Param.nom.row.id ++ beInt 4 300)) ∧
        Param.nom.row.stoppedOnly = true ∧ (only started).lanes[0].state = .running) := by
  decide +kernel

theorem witness_ParametersReadAndDefaulted_defaults :
    (cmd 7 []).lane.toNat = (7 : LaneId).val ∧ (cmd 7 []).payload = [] ∧
      State.reset.Takes 0x15 (cmd 7 []) ∧ State.reset.lanes[7].state ≠ .running := by decide +kernel

/-- The last entry of each table, one beyond it, the counts 0, 256 and 257, and the lowest and the highest
unknown id. -/
theorem witness_ReadTableReturnsRange :
    let payload (i first count : Nat) : List Byte := [BitVec.ofNat 8 i] ++ be 2 first ++ be 2 count
    (cmd 0 []).lane.toNat = (0 : LaneId).val ∧
    (∀ x ∈ [(Table.sprocketActive, 0, 500), (.sprocketLearning, 1, 500), (.lineActive, 2, 960),
        (.lineLearning, 3, 960), (.predictor, 4, 8), (.gain, 5, 64), (.defectQueue, 6, 32)],
      State.reset.Takes 0x22 (cmd 0 (payload x.2.1 (x.2.2 - 1) 1)) ∧
      [Table.sprocketActive, .sprocketLearning, .lineActive, .lineLearning, .predictor, .gain,
        .defectQueue][x.2.1]? = some x.1 ∧ x.2.2 - 1 < 65536 ∧
      x.2.2 = [(State.reset.lanes[0].params.get .samplesPerPerf).toNat,
        (State.reset.lanes[0].params.get .samplesPerPerf).toNat,
        (State.reset.lanes[0].params.get .linePeriod).toNat,
        (State.reset.lanes[0].params.get .linePeriod).toNat, 8, 64, 32].getD x.2.1 0 ∧
      (x.2.2 - 1) + 1 ≤ x.2.2 ∧
      State.reset.Takes 0x22 (cmd 0 (payload x.2.1 (x.2.2 - 1) 2)) ∧ x.2.2 < (x.2.2 - 1) + 2) ∧
    (∀ n ∈ [0, 256, 257], State.reset.Takes 0x22 (cmd 0 (payload 2 0 n))) ∧
    ∀ b ∈ [(7 : Byte), 255], 7 ≤ b.toNat ∧
      State.reset.Takes 0x22 (cmd 0 ([b] ++ be 2 0 ++ be 2 1)) := by decide +kernel

/-- The last two entries of each table with a value of each extreme, an ACTIVE write on a RUNNING lane and on
one that is not, the lowest and the highest id that is refused, a range one beyond the table, the counts 0
and 257, and a payload one byte short. -/
theorem witness_WriteTableStoresRange :
    let payload (i first count : Nat) (rest : List Byte) : List Byte :=
      [BitVec.ofNat 8 i] ++ be 2 first ++ be 2 count ++ rest
    let vs : List Int := [-2147483648, 2147483647]
    (cmd 0 []).lane.toNat = (0 : LaneId).val ∧
    (∀ x ∈ [(Table.sprocketActive, 0, 500), (.sprocketLearning, 1, 500), (.lineActive, 2, 960),
        (.lineLearning, 3, 960), (.predictor, 4, 8), (.gain, 5, 64)],
      State.reset.Takes 0x23 (cmd 0 (payload x.2.1 (x.2.2 - 2) 2 (vs.flatMap (beInt 4)))) ∧
      [Table.sprocketActive, .sprocketLearning, .lineActive, .lineLearning, .predictor,
        .gain][x.2.1]? = some x.1 ∧
      x.2.2 = [(State.reset.lanes[0].params.get .samplesPerPerf).toNat,
        (State.reset.lanes[0].params.get .samplesPerPerf).toNat,
        (State.reset.lanes[0].params.get .linePeriod).toNat,
        (State.reset.lanes[0].params.get .linePeriod).toNat, 8, 64].getD x.2.1 0 ∧
      (x.2.2 - 2) + 2 ≤ x.2.2 ∧ (x.1.values State.reset.lanes[0]).length = x.2.2 ∧
      State.reset.lanes[0].state ≠ .running ∧
      State.reset.Takes 0x23 (cmd 0 (payload x.2.1 (x.2.2 - 1) 2 [])) ∧ x.2.2 < (x.2.2 - 1) + 2) ∧
    (∀ v ∈ vs, -2147483648 ≤ v ∧ v ≤ 2147483647) ∧
    ((only started).Takes 0x23 (cmd 0 (payload 0 0 1 (beInt 4 5))) ∧
      (only started).lanes[0].state = .running) ∧
    (∀ n ∈ [0, 257], State.reset.Takes 0x23 (cmd 0 (payload 2 0 n []))) ∧
    (State.reset.Takes 0x23 (cmd 0 (payload 4 0 1 [0, 0, 0])) ∧ ([0, 0, 0] : List Byte).length ≠ 4 * 1) ∧
    ∀ b ∈ [(6 : Byte), 255], 6 ≤ b.toNat ∧ State.reset.Takes 0x23 (cmd 0 (b :: [0, 0, 0, 1])) := by
  decide +kernel

/-- Each code field at its last listed value and one beyond it, in the three states of the slots. -/
theorem witness_LoadSegmentStoresDescriptor :
    let payload (a b c : Byte) : List Byte := be 2 65535 ++ [a] ++ be 3 16777215 ++ [a, b, c, b]
    let s (a b : Slot) : State := only { stoppedLane .nom 2000 with slotA := a, slotB := b }
    (cmd 0 []).lane.toNat = (0 : LaneId).val ∧
      (∀ p ∈ [payload 2 1 1, payload 3 1 1, payload 2 2 1, payload 0 0 255],
        ∀ t ∈ [s .empty .empty, s (.loaded oneMark) .empty, s (.loaded oneMark) (.loaded oneMark)],
          t.Takes 0x30 (cmd 0 p) ∧ t.lanes[0].state ≠ .disabled) ∧
      (s .empty .empty).lanes[0].slotA = .empty ∧
      ((s (.loaded oneMark) .empty).lanes[0].slotA ≠ .empty ∧
        (s (.loaded oneMark) .empty).lanes[0].slotB = .empty) ∧
      ((s (.loaded oneMark) (.loaded oneMark)).lanes[0].slotA ≠ .empty ∧
        (s (.loaded oneMark) (.loaded oneMark)).lanes[0].slotB ≠ .empty) ∧
      (State.reset.Takes 0x30 (cmd 0 (payload 2 1 1)) ∧ State.reset.lanes[0].state = .disabled) := by
  decide +kernel

theorem witness_EndAndCollectSegments :
    let s (a b : Slot) : State := only { started with slotA := a, slotB := b }
    let r := Report.fresh 0
    (cmd 0 []).lane.toNat = (0 : LaneId).val ∧
    (∀ t ∈ [s (.running oneMark r false 0) (.loaded oneMark), s (.finished oneMark r .length) .empty],
      ∀ b ∈ [(0 : Byte), 1, 2, 255], t.Takes 0x31 (cmd 0 [b]) ∧ t.Takes 0x32 (cmd 0 [b])) ∧
    (cmd 0 [0]).payload = [SlotId.a.code] ∧ (cmd 0 [1]).payload = [SlotId.b.code] ∧
    (s (.running oneMark r false 0) (.loaded oneMark)).lanes[0].slot .a = .running oneMark r false 0 ∧
    (s (.running oneMark r false 0) (.loaded oneMark)).lanes[0].slot .b = .loaded oneMark ∧
    (s (.finished oneMark r .length) .empty).lanes[0].slot .a = .finished oneMark r .length ∧
    (s (.finished oneMark r .length) .empty).lanes[0].slot .b = .empty ∧
    1 < (2 : Byte).toNat ∧ 1 < (255 : Byte).toNat := by decide +kernel
/-! #### Words, instants, tracking -/

/-- The extremes of a signed byte on the wire. -/
theorem witness_WireFieldsAndCheck :
    (0 : Int) ≤ 127 ∧ (-128 : Int) < 0 ∧ -(256 ^ 1 : Int) ≤ -128 := by decide

theorem witness_WordsAndEdgesHeldOrDiscarded :
    let dual (a : Option PendingWord) : State :=
      only { startedLane .railMode 1 with front := { FrontEnd.start with pendingA := a } }
    (State.reset.resetHeld = false ∧ State.reset.lanes[0].state ≠ .running) ∧
    ((only (startedLane .source 1)).resetHeld = false ∧
      (only (startedLane .source 1)).lanes[0].params.get .source ≠ 0) ∧
    (sensorFields (word 0 0 5)).lane = 0 ∧
    (∀ a ∈ [none, some ⟨5, .ok⟩], (dual a).ListensTo 0 ∧ (dual a).lanes[0].params.get .railMode = 1 ∧
      (dual a).lanes[0].front.pendingA = a) ∧
    sensorFields (word 0 0 0x800000) = ⟨0, .a, .ok, -8388608⟩ ∧
    sensorFields (word 1 3 0x7FFFFF) = ⟨0, .b, .dark, 8388607⟩ := by decide +kernel

theorem witness_WordCompletesInstant :
    let dual : State :=
      only { startedLane .railMode 1 with front := { FrontEnd.start with pendingA := some ⟨60, .clipped⟩ } }
    ((only started).ListensTo 0 ∧ (only started).lanes[0].params.get .railMode = 0 ∧
      sensorFields (word 0 2 7) = ⟨0, .a, .dark, 7⟩) ∧
    (dual.ListensTo 0 ∧ dual.lanes[0].params.get .railMode = 1 ∧
      sensorFields (word 1 0 0xFFFFFB) = ⟨0, .b, .ok, -5⟩ ∧
      dual.lanes[0].front.pendingA = some ⟨60, .clipped⟩ ∧
      (.clipped : Quality) = if Quality.clipped = .dark ∨ Quality.ok = .dark then .dark
        else if Quality.clipped = .clipped ∨ Quality.ok = .clipped then .clipped else .ok) := by
  decide +kernel

/-- The smallest period at its last phase; and a dual-rail lane at an impulse instant whose half A is
limited, which carries no edge, a PERF edge, or a PERF and a SPLICE edge. -/
theorem witness_GeneratorCompletesInstant :
    ((4 : Int) ≤ 4 ∧ (0 : Int) ≤ 0 ∧ (0 : Int) ≤ 3 ∧ (3 : Int) < 4) ∧
    ∀ y ∈ [((1 : Nat), (6 : Nat), ([] : List EdgeKind)), (0, 5, [.perf]), (0, 0, [.perf]),
        (0, 6, [.perf, .splice])],
      let g : Generator := ⟨0, 0, y.1, y.2.1⟩
      let s : State := only { withRun (startedLane .source 1) (fun r => { r with generator := g }) with
        params := ((((Params.defaults.put .source 1).put .railMode 1).put .genImpulseSpacing 1).put
          .genImpulseHeight (-8388608)).put .genSpliceSpacing 3 }
      s.resetHeld = false ∧ s.lanes[0].state = .running ∧ s.lanes[0].params.get .source = 1 ∧
        g = s.lanes[0].run.generator ∧
        -1048576 = triangle (s.lanes[0].params.get .genPeriod) (s.lanes[0].params.get .genAmplitude)
          g.phase ∧
        true = decide (1 ≤ s.lanes[0].params.get .genImpulseSpacing ∧
          s.lanes[0].params.get .genImpulseSpacing ≤ (g.impulseCount : Int) + 1) ∧
        -8388608 = max (-8388608) (min 8388607
          (-1048576 + s.lanes[0].params.get .genImpulseHeight)) ∧
        s.lanes[0].params.get .railMode = 1 ∧
        y.2.2 = (if g.perfGap ≠ 0 then []
          else if 1 ≤ s.lanes[0].params.get .genSpliceSpacing ∧ 1 ≤ g.perfCount ∧
            (g.perfCount : Int) % s.lanes[0].params.get .genSpliceSpacing = 0 then [.perf, .splice]
          else [.perf]) := by decide +kernel

theorem witness_InputsStayInTheirLane :
    (∃ w, Instr.sensorWord (word 0 0 5) = .sensorWord w ∧ (sensorFields w).lane = 0) ∧
      exec (.sensorWord (word 0 0 5)) (only started) =
        .next (after (.sensorWord (word 0 0 5)) (only started)) :=
  ⟨⟨_, rfl, by decide⟩, rfl⟩

/-- A word that loses the signal, and one that does not. -/
theorem witness_NamedEventsAreTheirCauses :
    let s := only { started with front := { FrontEnd.start with darkRun := 63 } }
    s.resetHeld = false ∧ StepEvent.signalLost ∈ causeEvents s (.word (word 0 2 0)) ∧
      StepEvent.signalLost ∉ causeEvents s (.word (word 0 0 0)) := by decide +kernel

/-- The 64th instant of each kind, by a word on a single-rail lane, a B word on a dual-rail one, and, for
the recovery, a generated instant. -/
theorem witness_SignalChangesAtSixtyFour :
    let s (p : Param) (v : Int) (f : FrontEnd) : State :=
      only { startedLane p v with front := { f with pendingA := some ⟨0, .ok⟩ }, mask := 2 }
    let ok : FrontEnd := { FrontEnd.start with darkRun := 63 }
    let lost : FrontEnd := { FrontEnd.start with signal := .lost, recoveryRun := 63 }
    (∀ v ∈ [(0 : Int), 1],
      (s .railMode v ok).completes 0 (.word (word 1 2 0)) = some (.dark, []) ∧
      (s .railMode v ok).lanes[0].front.signal = .ok ∧ (s .railMode v ok).lanes[0].front.darkRun = 63 ∧
      (s .railMode v ok).lanes[0].mask &&& 0x02 ≠ 0 ∧
      ((s .railMode v ok).lanes[0].run.queue.records.filter
        fun r => decide (r.state = .opened)).length ≤ 1 ∧
      (s .railMode v lost).completes 0 (.word (word 1 1 0)) = some (.clipped, []) ∧
      (s .railMode v lost).lanes[0].front.signal = .lost ∧
      (s .railMode v lost).lanes[0].front.recoveryRun = 63) ∧
    (s .source 1 lost).completes 0 (.generator 0) = some (.ok, [.perf]) ∧
      (s .source 1 lost).lanes[0].front.signal = .lost ∧
      ∀ p ∈ (s .source 1 lost).lanes[0].run.resampler.prev,
        rpIndex (s .source 1 lost).lanes[0].run.resampler.rp ≠ p.index := by decide +kernel

/-- A lane at the loss with no record OPEN, and with one between two others. -/
theorem witness_SignalChangesAtSixtyFour_loss :
    let pre := [{ recordOver 4000 4003 .queued with id := 1 }]
    let post := [{ recordOver 9000 9003 .long with id := 2 }]
    let s (rs : List DefectRecord) : State :=
      only { withRun started fun r => { r with queue := ⟨rs, false⟩ } with
        front := { FrontEnd.start with darkRun := 63 } }
    (∀ rs ∈ [pre ++ post, pre ++ recordOver 5008 5014 .opened :: post],
      (s rs).completes 0 (.word (word 0 2 0)) = some (.dark, []) ∧
        (s rs).lanes[0].front.signal = .ok ∧ (s rs).lanes[0].front.darkRun = 63 ∧
        (s rs).lanes[0].run.queue.records = rs) ∧
    (∀ r ∈ pre ++ post, r.state ≠ .opened) ∧ (recordOver 5008 5014 .opened).state = .opened ∧
    ∀ o ∈ pre ++ post, o.state ≠ .opened ∧ o.id ≠ (recordOver 5008 5014 .opened).id := by
  decide +kernel

/-- A started lane whose tracker and next instant are as given, with the given edges held. -/
def tracking (t : Tracker) (k : Pos) (edges : List EdgeKind) : State :=
  only { withRun started fun r => { r with tracker := t } with
    front := { FrontEnd.start with nextIndex := k, heldEdges := edges }, mask := 1 }

/-- Part one: the interval that just matches and the one that just does not; in LOCKED each bound of the
classes from both sides. Part two: the last count without a timeout and the first with one. -/
theorem witness_TrackerTakesInstant_edge :
    let N (k m : Pos) : Int := 256 * ((k - m).toNat : Int)
    (|N 3250 1000 - 512000| ≤ 512000 / 8 ∧ (512000 : Int) / 8 < |N 3251 1000 - 512000|) ∧
    (N 1999 1000 < 512000 / 2 ∧ (512000 : Int) / 2 ≤ N 2000 1000 ∧ N 2000 1000 < 3 * 512000 / 4 ∧
      3 * (512000 : Int) / 4 ≤ N 2500 1000 ∧ N 3500 1000 ≤ 5 * 512000 / 4 ∧
      5 * (512000 : Int) / 4 < N 3501 1000) ∧
    (256 * (6000 : Int) ≤ 3 * 512000 ∧ 3 * (512000 : Int) < 256 * 6001) := by decide

/-- The counted classes: in LOCKED a spurious edge, both sides of each bound and an outlier; an edge in
ACQUIRING is neither. -/
theorem witness_TrackerTakesInstant_counted :
    ∀ x ∈ [(TrackerState.locked, (1999 : Pos), true, false), (.locked, 2000, false, true),
        (.locked, 2499, false, true), (.locked, 2500, false, false), (.locked, 3500, false, false),
        (.locked, 3501, false, true), (.acquiring, 1999, false, false)],
      let T : Tracker := ⟨x.1, 512000, some 1000, 0, 0⟩
      (x.2.2.1 = true ↔ T.state = .locked ∧
        ∃ m ∈ T.lastMark, 256 * ((x.2.1 - m).toNat : Int) < T.e / 2) ∧
      (x.2.2.2 = true ↔ T.state = .locked ∧ ∃ m ∈ T.lastMark, T.e / 2 ≤ 256 * ((x.2.1 - m).toNat : Int) ∧
        (256 * ((x.2.1 - m).toNat : Int) < 3 * T.e / 4 ∨
          5 * T.e / 4 < 256 * ((x.2.1 - m).toNat : Int))) := by
  simp

/-- Part three: an instant that locks, one that loses the lock by its outlier, one without an edge that times
out, one that ends HOLDOVER and one whose edge is spurious; on a single-rail lane, and a generated one. -/
theorem witness_TrackerTakesInstant :
    let s (x : Tracker × Pos × List EdgeKind) := tracking x.1 x.2.1 x.2.2
    (∀ x ∈ [((⟨.acquiring, 512000, some 1000, 3, 0⟩, 3250, [.perf]) : Tracker × Pos × List EdgeKind),
        (⟨.locked, 512000, some 1000, 4, 3⟩, 3501, [.perf]),
        (⟨.locked, 512000, some 1000, 4, 0⟩, 7001, []),
        (⟨.holdover, 512000, some 1000, 4, 0⟩, 9000, [.perf]),
        (⟨.locked, 512000, some 1000, 4, 0⟩, 1999, [.splice, .perf])],
      (s x).completes 0 (.word (word 0 0 0)) = some (.ok, x.2.2) ∧
        x.1 = (s x).lanes[0].run.tracker ∧ x.2.1 = (s x).lanes[0].front.nextIndex ∧
        0 ≤ (s x).lanes[0].params.get .nom ∧ 0 ≤ (s x).lanes[0].params.get .lossFactor ∧
        0 ≤ x.1.e ∧ x.2.2.count .perf ≤ 1) ∧
    (only (startedLane .source 1)).completes 0 (.generator 0) = some (.ok, [.perf]) := by
  decide +kernel

/-- The run's first instant; and a later one, with the step at both ends of its range. -/
theorem witness_InstantHandsOnItsOutputs :
    65535 < 65536 ∧ (PrevInstant.mk 5 none false 0).halves = none ∧
      (PrevInstant.mk 5 (some ⟨0, 100⟩) false 0).halves = some ⟨0, 100⟩ ∧
      ((only started).work 0).lane.run.resampler.prev = none ∧
      ∀ v ∈ [(3276 : Int), 26214400],
        let w : Work := (only (withRun started fun r =>
          { r with resampler := ⟨v, 0x60000, some ⟨5, none, true, 6⟩, 5, [6], [6]⟩ })).work 0
        w.lane.run.resampler.prev = some ⟨5, none, true, 6⟩ ∧ 3276 ≤ w.lane.run.resampler.step ∧
          w.lane.run.resampler.step ≤ 26214400 := by decide +kernel

/-! #### Invariants

Each is met by a state with a command in front that has an effect on what the invariant speaks of. -/

/-- A RUNNING lane with short templates, its parameters at the low ends that go with them. -/
def shortLane : Lane :=
  { Lane.reset with
    state := .stopped
    params := (Params.defaults.put .samplesPerPerf 100).put .linePeriod 100
    sprocket := Template.zero 100
    line := Template.zero 100 }.start

/-- Eight such lanes, with a command in front. -/
def shortState (l : Lane) (c : Instr) : State :=
  { State.reset with lanes := Vector.replicate 8 l, pending := [c] }

theorem witness_LinkQueuesStayBounded :
    let s : State := { State.reset with
      link := { Link.reset with inbound := List.replicate 8 ⟨1, 7, 255, []⟩ }
      pending := [.frameReceived (arriving (Frame.line ⟨1, 7, 255, []⟩))] }
    s.link.Ok ∧ step s = .next (after (.frameReceived (arriving (Frame.line ⟨1, 7, 255, []⟩)))
      { s with pending := [] }) :=
  ⟨by decide +kernel, by simp only [step, after, exec, execFrameReceived]⟩

theorem witness_TrackerEstimateStaysInRange :
    let s := shortState shortLane (.sensorWord (word 0 0 5))
    s.EachLane Lane.ParamsOk ∧ s.EachLane Lane.TrackerOk ∧
      step s = .next (after (.sensorWord (word 0 0 5)) { s with pending := [] }) :=
  ⟨by decide +kernel, by decide +kernel, rfl⟩

/-- A full ring whose newest entry is followed by the next output. -/
def fullRing : Lane := withRun shortLane fun r =>
  { r with
    ring := ⟨(List.range 8).map fun i => entryAt (BitVec.ofNat 32 i),
      (List.range 256).map fun i => entryAt (BitVec.ofNat 32 (8 + i))⟩
    resampler := { r.resampler with nextPos := 264, prev := some ⟨0, none, false, 0⟩ } }

theorem witness_RingStaysBounded :
    let s := { shortState shortLane (.sensorWord (word 0 0 5)) with
      lanes := (Vector.replicate 8 shortLane).set 0 fullRing }
    s.EachLane Lane.RingOk ∧
      step s = .next (after (.sensorWord (word 0 0 5)) { s with pending := [] }) :=
  ⟨by decide +kernel, rfl⟩

theorem witness_ConfigurationStaysInRange :
    let c := Instr.setParam (cmd 0 (be 2 Param.hissOpen.row.id ++ beInt 4 63))
    let s := shortState shortLane c
    s.EachLane Lane.ParamsOk ∧ s.EachLane Lane.TablesOk ∧
      step s = .next (after c { s with pending := [] }) := ⟨by decide +kernel, by decide +kernel, rfl⟩

theorem witness_RecordsStayBounded :
    let l := withRun shortLane fun r => { r with
      queue := ⟨List.replicate 32 (recordOver 0 1023 .queued), true⟩ }
    let s := shortState l .jobLoad
    s.EachLane Lane.ParamsOk ∧ s.EachLane Lane.QueueOk ∧
      step s = .next (after .jobLoad { s with pending := [] }) :=
  ⟨by decide +kernel, by decide +kernel, rfl⟩

/-- A full tail and a window of LOOKAHEAD entries, with a record in it that bank 0 has repaired and an OPEN one at its
newest entries. -/
def ordered : Lane :=
  { withRun fullRing fun r =>
    { r with
      ring := ⟨r.ring.tail, r.ring.window.map fun e =>
        if 20 ≤ e.pos.toNat ∧ e.pos.toNat ≤ 24 then { e with defect := true, link := some 0 }
        else if 262 ≤ e.pos.toNat then { e with defect := true, link := some 1 } else e⟩
      queue := ⟨[{ recordOver 20 24 .inRepair with holding := some 0 },
        { recordOver 262 266 .opened with id := 1 }], false⟩
      detector := { r.detector with nextId := 2, lastEnd := some 24 } } with
    params := fullRing.params.put .lookahead 256 }

/-- Lane 0 as above among seven short lanes, its first record's job in bank 0, with a command in front. -/
def orderedState (c : Instr) : State :=
  { shortState shortLane c with
    lanes := (Vector.replicate 8 shortLane).set 0 ordered
    engine := ⟨#v[.finished ⟨0, 1, 0, 5, .half .a []⟩ [], .empty], 0, [0]⟩ }

theorem witness_RecordsStayInOrder :
    let s := orderedState (.sensorWord (word 0 0 5))
    s.EachLane Lane.ParamsOk ∧ s.EachLane Lane.RingOk ∧ s.EachLane Lane.QueueOk ∧
      s.EachLane Lane.RecordsOk ∧
      step s = .next (after (.sensorWord (word 0 0 5)) { s with pending := [] }) :=
  ⟨by decide +kernel, by decide +kernel, by decide +kernel, by decide +kernel, rfl⟩

theorem witness_BanksHoldTheirRecords :
    let s := orderedState .writeBack
    s.EachLane Lane.ParamsOk ∧ s.EachLane Lane.RingOk ∧ s.EachLane Lane.QueueOk ∧
      s.EachLane Lane.RecordsOk ∧ s.RecordsHeld ∧
      step s = .next (after .writeBack { s with pending := [] }) :=
  ⟨by decide +kernel, by decide +kernel, by decide +kernel, by decide +kernel, by decide +kernel, rfl⟩

theorem witness_HissGainAndFloorStayInRange :
    In24 (-8388608) ∧ In24 8388607 ∧
    (let s := shortState shortLane (.sensorWord (word 0 0 5))
     s.EachLane Lane.ParamsOk ∧ s.EachLane Lane.TablesOk ∧ s.EachLane Lane.HissOk ∧
      step s = .next (after (.sensorWord (word 0 0 5)) { s with pending := [] })) :=
  ⟨by decide, by decide, by decide +kernel, by decide +kernel, by decide +kernel, rfl⟩

theorem witness_SlotsStayLawful :
    let s := shortState { shortLane with
      slotA := .running oneMark (Report.fresh 0) false 0, slotB := .loaded oneMark, loadOrder := [.b] }
      (.stopLane (cmd 0 []))
    s.EachLane Lane.SlotsOk ∧
      step s = .next (after (.stopLane (cmd 0 [])) { s with pending := [] }) :=
  ⟨by decide +kernel, rfl⟩

/-- A job with one result. -/
def oneJob : Job := ⟨0, 1, 0, 1, .half .a [(600, 590, 618)]⟩

theorem witness_BanksStayLawful :
    let s : State := { State.reset with
      engine := ⟨#v[.running oneJob, .loaded oneJob], 0, []⟩, pending := [.jobCompletion] }
    s.engine.Ok ∧ step s = .next (after .jobCompletion { s with pending := [] }) :=
  ⟨by decide +kernel, rfl⟩

/-! #### The ring, the templates and the detector -/

/-- A full tail, and a window one entry above LOOKAHEAD. -/
theorem witness_DepartureTestRunsOut :
    let w : Work := (only (withRun fullRing fun r => { r with
      ring := { r.ring with window := r.ring.window ++ [entryAt 264] } })).work 0
    0 ≤ w.p .lookahead ∧ w.lane.run.ring.tail.length ≤ 8 := by decide +kernel

/-- A window of 2,048 − t entries behind a tail of t, from position 8 − t, whose oldest entry has a link. -/
def full (t : Nat) (st : RecordState) : Work :=
  (only (withRun started fun r =>
    { r with
      ring := ⟨(List.range t).map fun i => entryAt (BitVec.ofNat 32 (8 - t + i)),
        { entryAt 8 with link := some 0 } ::
          (List.range (2047 - t)).map fun i => entryAt (BitVec.ofNat 32 (9 + i))⟩
      queue := ⟨[recordOver 8 12 st], false⟩
      detector := { r.detector with nextId := 1 } })).work 0

/-- A ring one short of full; and a full one, with a full, a nearly full and an empty tail, whose oldest
entry's record is resolved, or unresolved in each of its states. -/
theorem witness_OverrunMakesRoom :
    (∀ t ∈ [0, 7, 8], ∀ st ∈ [RecordState.long, .opened, .queued, .loaded, .inRepair],
      (full t st).lane.run.ring.tail.length ≤ 8 ∧
      (full t st).lane.run.ring.tail.length + (full t st).lane.run.ring.window.length = 2048 ∧
      (full t st).lane.run.ring.window.head? = some { entryAt 8 with link := some 0 } ∧
      (full t st).lane.run.queue.records = [] ++ recordOver 8 12 st :: [] ∧
      (full t st).lane.run.detector.nextId ≠ (recordOver 8 12 st).id) ∧
    (only started).lanes[0].run.ring.tail.length + (only started).lanes[0].run.ring.window.length <
      2048 := by decide +kernel

theorem witness_DepartingAndRestoredValues :
    let long := recordOver 0 4 .long
    let abandoned := recordOver 0 4 .abandoned
    (entryAt 2).repaired = false ∧ ({ entryAt 2 with repaired := true } : Entry).repaired = true ∧
      long.state = .long ∧ abandoned.state = .abandoned ∧
      (∀ v ∈ [(0 : Int), 1, 2], (stoppedLane .longPolicy v).params.get .longPolicy = v) ∧
      ∀ v ∈ [(0 : Int), 1], (stoppedLane .overrunPolicy v).params.get .overrunPolicy = v := by
  decide +kernel

/-- The two departures of 07 in each floor mode, and the departure that ends a TRACK run, with the values of
test_hiss and test_floorUpdate's places. -/
theorem witness_DepartingAndRestoredValues_hiss :
    ∀ x ∈ [((0 : Int), 0, (none : Option Int), false, (1600 : Int), 1, (some 3988 : Option Int)),
        (0, 254, some 1200, false, 1600, 255, some 1200), (0, 255, some 1200, true, 1200, 0, none),
        (0, 255, some 1601, true, 1600, 0, none), (1, 255, some 1200, false, 1600, 0, none),
        (2, 7, some 1200, false, 900, 0, none)],
      let l := withRun { startedLane .floorMode x.1 with
          params := (Params.defaults.put .floorMode x.1).put .floorValue 900 } fun r =>
        { r with hiss := ⟨1000, 4000, 1600, 20000, x.2.1, x.2.2.1⟩ }
      let w : Work := (only l).work 0
      let h := w.lane.run.hiss
      let lp := h.lp + (1080 - h.lp) / 2 ^ (w.p .hissSplit).toNat
      let v := 16 * |1080 - lp|
      let n := x.2.2.2.2.1
      let lv := if h.level < v then h.level + (v - h.level) / 2 ^ (w.p .hissAttack).toNat
        else h.level + (v - h.level) / 2 ^ (w.p .hissRelease).toNat
      lp = 1010 ∧ lv = 3988 ∧ 0 ≤ w.p .floorMode ∧ w.p .floorMode ≤ 2 ∧
        (w.p .floorMode = 0 → h.runCount < 255 →
          x.2.2.2.1 = false ∧ n = h.floor ∧ x.2.2.2.2.2.1 = h.runCount + 1 ∧
            x.2.2.2.2.2.2 = some (h.runMin.elim lv (min lv))) ∧
        (w.p .floorMode = 0 → 255 ≤ h.runCount →
          x.2.2.2.1 = true ∧ x.2.2.2.2.2.1 = 0 ∧ x.2.2.2.2.2.2 = none ∧
            n = (if h.runMin.elim lv (min lv) < h.floor then max 1 (h.runMin.elim lv (min lv))
              else h.floor + (h.runMin.elim lv (min lv) - h.floor) / 2 ^ (w.p .floorRise).toNat)) ∧
        (w.p .floorMode = 1 →
          x.2.2.2.1 = false ∧ n = h.floor ∧ x.2.2.2.2.2.1 = 0 ∧ x.2.2.2.2.2.2 = none) ∧
        (w.p .floorMode = 2 →
          x.2.2.2.1 = false ∧ n = w.p .floorValue ∧ x.2.2.2.2.2.1 = 0 ∧ x.2.2.2.2.2.2 = none) := by
  decide +kernel

theorem witness_SprocketAndLineIndices :
    let h : HumIndex := ⟨99, 959, true⟩
    h.ts < 100 ∧ h.tl < 960 ∧ h.indexed = true ∧ (⟨0, 0, false⟩ : HumIndex).indexed = false ∧
      ((only started).work 0).p .samplesPerPerf = ((500 : Nat) : Int) ∧
      ((only started).work 0).p .linePeriod = ((960 : Nat) : Int) := by decide +kernel

/-- An accumulator below, at and above 256 times its target. -/
theorem witness_SubtractionAndLearning :
    (0 : Int) ≤ 256 * 3 ∧ (768 : Int) ≤ 256 * 3 ∧ 256 * 3 < (769 : Int) := by decide

/-- The firing of a dual-rail entry with an impulse. -/
def firing : Demand := { fires := true, splice := 0, causes := ⟨true, false, false, false⟩, peak := 700 }

/-- A LOST entry; and for single-rail and dual-rail entries with and without a history, the measures and the
causes of each kind: the click of 05 at 5,010, the asymmetry of R85, SENSOR while settling, a splice, none. -/
theorem witness_ExaminationMeasuresAndLearns :
    ({ entryAt 9 with lost := true } : Entry).lost = true ∧
    (let D : Detector := { started.run.detector with
        history := [⟨50, none, 0, 0⟩, ⟨0, none, 0, 0⟩], envA := 1600, settle := 0 }
      let w : Work := (only (withRun started fun r => { r with detector := D })).work 0
      let n : Entry := { entryAt 5010 with w := 800, spliceMark := true }
      n.lost = false ∧ D = w.lane.run.detector ∧ D.settle = 0 ∧ w.p .clickOn = 1 ∧
        (some (n.w - 2 * 50 + 0) : Option Int) = some 700 ∧ 16 * w.p .impulseFloor < 16 * |(700 : Int)| ∧
        w.p .impulseFactor * D.envA < 4 * (16 * |(700 : Int)|) ∧ 0 < w.p .spliceSpan) ∧
    (let D : Detector := { started.run.detector with meanM := 160, envAa := 1280, settle := 0 }
      let w : Work := (only (withRun (startedLane .railMode 1) fun r => { r with detector := D })).work 0
      let n : Entry := { entryAt 7 with halves := some ⟨1400, 620⟩, sensor := true }
      n.lost = false ∧ D = w.lane.run.detector ∧ D.history = [] ∧
        (n.halves.map fun h => 16 * (h.a - h.b)) = some 12480 ∧ |(12480 : Int) - D.meanM| = 12320 ∧
        16 * w.p .asymFloor < 12320 ∧ w.p .asymFactor * D.envAa < 4 * 12320) := by decide +kernel

/-- A lane with entries 10, 11 and 12 in the ring, n records in the queue and a last end. -/
def opening (n : Nat) (last : Option Pos) : Work :=
  (only (withRun started fun r => { r with
    ring := ⟨[], [entryAt 10, entryAt 11, entryAt 12]⟩
    queue := ⟨List.replicate n (recordOver 0 4 .queued), false⟩
    detector := { r.detector with lastEnd := last } })).work 0

/-- Entry 12 firing, with a splice, or both, with each last end near it, one a whole turn before it, and none;
at 31 records and at 32; an entry that asks nothing and a covered one. -/
theorem witness_FiringOpensOrDrops :
    (∀ x ∈ [((none : Option Pos), true, (2 : Nat), (10 : Pos)), (some 8, true, 2, 10), (some 9, true, 2, 10),
        (some 10, true, 2, 11), (some 11, true, 2, 12), (some 12, true, 2, 10), (none, false, 0, 12),
        (some 11, false, 0, 12), (some 12, false, 0, 12)],
      let w := opening 31 x.1
      let d : Demand := { firing with fires := x.2.1, splice := 24 }
      (∀ r ∈ w.lane.run.queue.records, r.state ≠ .opened) ∧ (entryAt 12).link = none ∧
        (d.fires = true ∨ 1 ≤ d.splice) ∧ w.lane.run.queue.records.length < 32 ∧
        w.lane.run.detector.lastEnd = x.1 ∧
        x.2.2.1 = if d.fires = true then min 2 (w.lane.run.ring.fill - 1) else 0) ∧
    ((12 : Pos) - 10 = 2 ∧ (12 : Pos) - BitVec.ofNat 32 (min 1 2) = 11 ∧ (12 : Pos) - 11 = 1 ∧
      (12 : Pos) - 9 ≠ 1 ∧ (12 : Pos) - 9 ≠ 2 ∧ (12 : Pos) - 12 ≠ 1 ∧ (12 : Pos) - 12 ≠ 2 ∧
      (12 : Pos) - BitVec.ofNat 32 2 = 10 ∧ (12 : Pos) - BitVec.ofNat 32 0 = 12) ∧
    (∀ r ∈ (opening 32 none).lane.run.queue.records, r.state ≠ .opened) ∧
    32 ≤ (opening 32 none).lane.run.queue.records.length ∧ firing.fires = true ∧
    ({ firing with fires := false } : Demand).splice = 0 ∧
    ({ entryAt 12 with link := some 0 } : Entry).link ≠ none := by decide +kernel

/-- Assumption 36: a splice at 1,020, covered by the capped record, extends the record open from 1,024. -/
theorem test_coveredSplice :
    let w : Work := (only (withRun started fun r => { r with
      queue := ⟨[{ recordOver 0 1023 .long with id := 1 }, recordOver 1024 1030 .opened], false⟩ })).work 0
    ((recordActions w { entryAt 1020 with link := some 1 } ⟨none, none, 0, 0⟩
      { firing with fires := false, splice := 24 }).lane.run.queue.records.map (·.stop)) = [1023, 1043] := by
  decide +kernel

/-- An open record that starts one, 23 or 2^31 positions beyond the entry; a reach that ends below the
start, at it and beyond the record's end. -/
theorem witness_OpenRecordGrowsAndCloses_before :
    (∀ x ∈ [((1023 : Pos), (1 : Nat)), (1001, 23), (2147484672, 2147483648)],
      let r := recordOver 1024 1030 .opened
      let w : Work := (only (withRun started fun q => { q with
        queue := ⟨[{ recordOver 0 1023 .long with id := 1 }] ++ r :: [], false⟩ })).work 0
      w.lane.run.queue.records = [{ recordOver 0 1023 .long with id := 1 }] ++ r :: [] ∧
        r.state = .opened ∧ (r.stop - r.start).toNat ≤ 1023 ∧
        (∀ q ∈ [{ recordOver 0 1023 .long with id := 1 }] ++ ([] : List DefectRecord),
          q.state ≠ .opened ∧ q.id ≠ r.id) ∧
        x.2 = (r.start - x.1).toNat ∧ 1 ≤ x.2 ∧ x.2 ≤ 2147483648) ∧
    (∀ n ∈ [1, 24, 48], ({ firing with fires := false, splice := n } : Demand).splice ≤ 48 ∧ 1 ≤ n) ∧
    firing.fires = true ∧ firing.splice ≤ 48 := by decide +kernel

/-- An open record of seven entries, of 1,024 and, behind 31 others, of 1,000: the entry in the span, beyond
it and at the closing position; demands that just reach the cap and just pass it, by a firing and by a
splice, at o = 1,023 and at 1,024. -/
theorem witness_OpenRecordGrowsAndCloses :
    let pre (n : Nat) : List DefectRecord :=
      List.replicate n { recordOver 4000 4003 .queued with id := 1 }
    (∀ x ∈ [(0, (6 : Pos), (14 : Pos)), (0, 6, 6), (0, 6, 7), (0, 1023, 1023), (31, 999, 1000),
        (30, 999, 1000)],
      let w : Work := (only (withRun started fun r => { r with
        queue := ⟨pre x.1 ++ recordOver 0 x.2.1 .opened :: [], false⟩ })).work 0
      w.lane.run.queue.records = pre x.1 ++ recordOver 0 x.2.1 .opened :: [] ∧
        (∀ q ∈ pre x.1 ++ [], q.state ≠ .opened ∧ q.id ≠ (recordOver 0 x.2.1 .opened).id) ∧
        (x.2.2 - 0).toNat < 2147483648 ∧ (x.2.1 - 0).toNat ≤ 1023) ∧
    (14 : Pos) = 6 + 8 ∧ (32 ≤ (pre 31 ++ [recordOver 0 999 .opened]).length) ∧
    (pre 30 ++ [recordOver 0 999 .opened]).length < 32 ∧
    (let fired := firing
      let spliced : Demand := { firing with fires := false, splice := 24 }
      1021 + fired.beyond ≤ 1023 ∧ 1023 < 1022 + fired.beyond ∧ 1022 + (fired.splice - 1) ≤ 1023 ∧
        1023 < 1024 + fired.beyond ∧ 1000 + spliced.beyond ≤ 1023 ∧ 1023 < 1001 + spliced.beyond ∧
        1023 < 1001 + (spliced.splice - 1) ∧ 1 ≤ spliced.splice ∧ fired.fires = true ∧
        ({ firing with fires := false } : Demand).splice = 0) := by decide +kernel

/-- A lane in HOLDOVER whose next word hands on the one output at 5,022, eight beyond the open record. -/
def closing : State :=
  only { withRun (startedLane .clickOn 0) fun r =>
    { r with
      tracker := ⟨.holdover, 512000, some 0, 0, 0⟩
      resampler := ⟨262144, 0x60000, some ⟨0, none, false, 6⟩, 5022, [], []⟩
      ring := ⟨[], [entryAt 5021]⟩
      queue := ⟨[{ recordOver 4000 4003 .long with id := 1 }, recordOver 5008 5014 .opened], false⟩ } with
    front := { FrontEnd.start with nextIndex := 7 } }

/-- By CLICK_ON at OFF, and by a settling entry. -/
theorem witness_RecordClosesAfterEightQuiet :
    ∃ (p : PrevInstant) (pre : List DefectRecord) (r : DefectRecord),
      closing.completes 0 (.word (word 0 0 5)) = some (.ok, []) ∧
      closing.lanes[0].front.signal = .ok ∧ closing.lanes[0].run.resampler.prev = some p ∧
      p.suspect = false ∧ closing.lanes[0].run.resampler.spliceMarks = [] ∧
      rpIndex closing.lanes[0].run.resampler.rp = p.index ∧
      rpIndex (closing.lanes[0].run.resampler.rp +
        BitVec.ofInt 48 closing.lanes[0].run.resampler.step) ≠ p.index ∧
      closing.lanes[0].params.get .clickOn = 0 ∧ 0 < closing.lanes[0].run.detector.settle ∧
      closing.lanes[0].run.ring.fill < 2048 ∧
      (closing.lanes[0].run.ring.window.length : Int) < closing.lanes[0].params.get .lookahead ∧
      closing.lanes[0].run.queue.records = pre ++ [r] ∧
      (∀ q ∈ pre, q.state ≠ .opened ∧ q.id ≠ r.id) ∧ r.state = .opened ∧
      closing.lanes[0].run.resampler.nextPos = r.stop + 8 ∧
      ∀ q ∈ pre ++ [r], inSpan q.start q.stop (r.stop + 8) = false :=
  ⟨⟨0, none, false, 6⟩, [{ recordOver 4000 4003 .long with id := 1 }],
    recordOver 5008 5014 .opened, by decide +kernel⟩

/-- A lane with a segment RUNNING that asks for reports, or does not, or none RUNNING, and an outbound queue
of n payload bytes. -/
def retiring (reports : Bool) (n : Nat) : Work :=
  { (only { started with
      slotA := .running { oneMark with reports } (Report.fresh 0) false 0 }).work 0 with
    outbound := loaded n }

/-- No segment; one without reports; one with, where the report just fits and just does not; and, for the
departure, an oldest entry with a record and one without. -/
theorem witness_RetirementCountsReportsRemoves :
    ((only started).work 0).lane.runningSlot = none ∧
    (∀ b ∈ [false, true], (retiring b 61408).lane.runningSlot = some .a ∧
      (retiring b 61408).lane.slot .a = .running { oneMark with reports := b } (Report.fresh 0) false 0) ∧
    (∀ st ∈ [RecordState.repaired, .long, .abandoned],
      (recordOver 8 12 st).state = .repaired ∨ (recordOver 8 12 st).state = .long ∨
        (recordOver 8 12 st).state = .abandoned) ∧
    usedBytes (retiring true 61408).outbound + 25 + 4096 ≤ 65536 ∧
    65536 < usedBytes (retiring true 61409).outbound + 25 + 4096 ∧
    (∃ es, (full 8 .long).lane.run.ring.window = { entryAt 8 with link := some 0 } :: es) ∧
    (full 8 .long).lane.run.recordOf { entryAt 8 with link := some 0 } = some (recordOver 8 12 .long) ∧
    (full 8 .long).lane.run.recordOf (entryAt 8) = none := by
  refine ⟨by decide +kernel, by decide +kernel, by decide, ?_, ?_, ⟨_, rfl⟩, by decide, by decide⟩
  · simp [retiring, used_loaded]
  · simp [retiring, used_loaded]

theorem witness_SegmentsDoNotReachDetection :
    ∀ p ∈ [(Param.source, Instr.sensorWord (word 0 0 5)), (.source, .generatorInstant 0)],
      let l := startedLane p.1 (if p.2 = .generatorInstant 0 then 1 else 0)
      let s := only l
      let s' := only { l with
        slotA := .running oneMark (Report.fresh 0) false 0, mask := 255, latch := 1 }
      (p.2 = .generatorInstant 0 ∨ p.2 = .sensorWord (word 0 0 5) ∧
        (sensorFields (word 0 0 5)).lane = 0) ∧ s.resetHeld = s'.resetHeld ∧
        SameSignalPath s.lanes[0] s'.lanes[0] := by decide +kernel

/-! #### Output, segments and repair -/

/-- A RUNNING segment of each word length with dither, by its slot; and no segment. -/
theorem witness_OutputSamplesAndBlocks :
    (0x5A5A5A : BitVec 24) ≠ 0 ∧ In24 (-8388608) ∧ In24 8388607 ∧ 4294967295 ≤ 4294967295 ∧
      ((only started).work 0).lane.runningSlot = none ∧
      ∀ wl ∈ [WordLength.bits16, .bits24],
        let d : Descriptor := { oneMark with word := wl, dither := true }
        let w : Work := (only { started with slotB := .running d (Report.fresh 0) false 0 }).work 0
        w.lane.runningSlot = some .b ∧ w.lane.slot .b = .running d (Report.fresh 0) false 0 := by
  decide +kernel

/-- A RUNNING segment with an end request or without one, one mark below its length and at it, and with length
0; and, with none RUNNING, slot A LOADED with AT_PERF before slot B with each start condition. -/
theorem witness_SegmentsStartEndAndHandOver_steps :
    (∀ x ∈ [(false, (0 : Nat), (7 : Nat)), (false, 3, 1), (false, 3, 2), (true, 3, 2), (true, 0, 0)],
      let d : Descriptor := { oneMark with length := x.2.1 }
      let w : Work := (only { started with
        slotA := .running d (Report.fresh 0) x.1 x.2.2, loadOrder := [] }).work 0
      w.lane.runningSlot = some .a ∧ w.lane.slot .a = .running d (Report.fresh 0) x.1 x.2.2) ∧
    ((7 + 1 : Nat) < 3 ∨ (0 : Nat) = 0) ∧ 1 + 1 < 3 ∧ 1 ≤ 3 ∧ 3 ≤ 2 + 1 ∧
    ∀ x ∈ [(StartCondition.immediate, entryAt 7), (.atSplice, { entryAt 7 with spliceMark := true })],
      let d : Descriptor := { oneMark with start := x.1 }
      let late : Descriptor := { oneMark with start := .atPerf }
      let w : Work := (only { started with
        slotA := .loaded late, slotB := .loaded d, loadOrder := [.a, .b] }).work 0
      w.lane.runningSlot = none ∧ w.lane.loadOrder = [.a] ++ .b :: [] ∧
        w.lane.slot .a = .loaded late ∧ ¬ late.Meets x.2 ∧ w.lane.slot .b = .loaded d ∧ d.Meets x.2 ∧
        ({ oneMark with start := .atPerf } : Descriptor).Meets { entryAt 7 with perfMark := true } := by
  decide +kernel

/-- A RUNNING segment of length 1 that has counted no mark, and each start condition of the other slot. -/
theorem witness_SegmentsStartEndAndHandOver :
    ∀ c ∈ [StartCondition.immediate, .atPerf],
      let d' : Descriptor := { oneMark with start := c }
      let w : Work := (only { started with
        slotA := .running oneMark (Report.fresh 0) false 0, slotB := .loaded d', loadOrder := [.b]
        mask := 0x0C }).work 0
      SlotId.a ≠ .b ∧ w.lane.slot .a = .running oneMark (Report.fresh 0) false 0 ∧
        w.lane.slot .b = .loaded d' ∧ w.lane.loadOrder = [.b] ∧ 1 ≤ oneMark.length ∧
        oneMark.length ≤ 0 + 1 ∧ ({ entryAt 7 with perfMark := true } : Entry).perfMark = true ∧
        d'.start ≠ .atSplice ∧ w.lane.mask &&& 0x0C = 0x0C := by decide +kernel

/-- A lane at LOOKAHEAD 256 with 257 entries in the window, from position 8, the oldest with a mark and at
index 0; its record over 20 to 24 is the one of a FINISHED job. -/
def releasing : State :=
  { only { withRun (startedLane .lookahead 256) fun r =>
      { r with
        ring := ⟨[], { entryAt 8 with perfMark := true, locked := true } ::
          (List.range 256).map fun i => entryAt (BitVec.ofNat 32 (9 + i))⟩
        queue := ⟨[{ recordOver 20 24 .inRepair with holding := some 0 }], false⟩
        hiss := { r.hiss with runCount := 255, runMin := some 16 } } with
      line := { Template.zero 960 with cycles := 31 }
      sprocket := { Template.zero 500 with cycles := 31 }
      slotA := .running oneMark (Report.fresh 0) false 0 } with
    engine := ⟨#v[.finished ⟨0, 1, 0, 5, .half .a []⟩ [], .empty], 0, [0]⟩ }

theorem witness_DepartureEventsAtWriteBack :
    ∃ (order : List BankId) (j : Job) (rs : List Int) (r : DefectRecord) (e : Entry) (es : List Entry),
      releasing.resetHeld = false ∧ releasing.engine.finishOrder = 0 :: order ∧
      releasing.engine.banks[0] = .finished j rs ∧ j.lane = 0 ∧
      releasing.lanes[0].matching j 0 = some r ∧ releasing.lanes[0].run.ring.window = e :: es ∧
      e.link = none ∧ inSpan r.start r.stop e.pos = false ∧
      (es.length : Int) = releasing.lanes[0].params.get .lookahead ∧
      (releasing.lanes[0].params.get .floorMode = 0 ∧ releasing.lanes[0].run.hiss.runCount = 255) ∧
      (releasing.lanes[0].params.get .lineMode = 0 ∧ e.tl = 0 ∧
        releasing.lanes[0].params.get .swapCycles ≤ (releasing.lanes[0].line.cycles : Int) + 1) ∧
      (releasing.lanes[0].params.get .sprocketMode = 0 ∧ e.locked = true ∧ e.perfMark = true ∧
        releasing.lanes[0].params.get .swapCycles ≤ (releasing.lanes[0].sprocket.cycles : Int) + 1) ∧
      releasing.lanes[0].runningSlot = some .a ∧
      releasing.lanes[0].slot .a = .running oneMark (Report.fresh 0) false 0 ∧
      e.perfMark = true ∧ 1 ≤ oneMark.length ∧ oneMark.length ≤ 0 + 1 :=
  ⟨[], ⟨0, 1, 0, 5, .half .a []⟩, [], { recordOver 20 24 .inRepair with holding := some 0 },
    { entryAt 8 with perfMark := true, locked := true },
    (List.range 256).map fun i => entryAt (BitVec.ofNat 32 (9 + i)), by decide +kernel⟩

/-- Lane 0, reached after all the others from the pointer 0, with a record of each repair kind; and a state
with no lane eligible. -/
theorem witness_JobLoadServesNextLane :
    ((∀ l : LaneId, ∀ r ∈ State.reset.lanes[l].run.queue.records, r.state ≠ .queued)) ∧
    ∀ x ∈ [((0 : Int), (false : Bool)), (1, true)],
      let r : DefectRecord := { recordOver 20 24 .queued with
        id := 1, causes := ⟨false, true, false, false⟩, sumA := 5, sumB := 5 }
      let s : State := { only (withRun (startedLane .railMode x.1) fun run => { run with
          queue := ⟨[recordOver 8 12 .inRepair, r], false⟩ }) with
        engine := ⟨#v[.running oneJob, .empty], 0, []⟩ }
      s.resetHeld = false ∧ s.engine.banks[1] = .empty ∧ s.engine.banks[0] ≠ .empty ∧
        s.lanes[0].run.queue.records = [recordOver 8 12 .inRepair] ++ r :: [] ∧ r.state = .queued ∧
        (∀ q ∈ [recordOver 8 12 .inRepair], q.state ≠ .queued) ∧
        (∀ q ∈ [recordOver 8 12 .inRepair] ++ [], q.id ≠ r.id) ∧
        (∀ m : LaneId, (m - s.engine.pointer - 1).val < ((0 : LaneId) - s.engine.pointer - 1).val →
          ∀ q ∈ s.lanes[m].run.queue.records, q.state ≠ .queued) ∧
        x.2 = decide (s.lanes[0].params.get .railMode = 1 ∧ s.lanes[0].params.get .halfRepair = 1 ∧
          r.causes.asymmetry = true ∧ r.causes.sensor = false ∧ r.causes.splice = false) := by
  decide +kernel

/-- A context position that the ring holds and one that it does not. -/
theorem witness_JobLoadServesNextLane_context :
    let g : Ring := ⟨[entryAt 6], [entryAt 7]⟩
    (0 < 8 ∧ ∀ e ∈ g.tail ++ g.window, e.pos ≠ (0 : Pos) + BitVec.ofNat 32 0) ∧
      (7 < 8 ∧ g.tail ++ g.window = [entryAt 6] ++ entryAt 7 :: [] ∧
        (entryAt 7).pos = (0 : Pos) + BitVec.ofNat 32 7 ∧ ∀ f ∈ [entryAt 6], f.pos ≠ (entryAt 7).pos) := by
  decide

/-- No RUNNING bank; a RUNNING one alone; and one with the other LOADED, with its record and without. -/
theorem witness_JobCompletionFinishesBank :
    let s (b₁ : Bank) (n : BitVec 8) : State :=
      { only { withRun started fun r => { r with
          queue := ⟨[{ recordOver 20 24 .loaded with holding := some 1 }], false⟩ } with runNumber := n } with
        engine := ⟨#v[.running oneJob, b₁], 0, []⟩ }
    let r : DefectRecord := { recordOver 20 24 .loaded with holding := some 1 }
    (State.reset.engine.banks[0].isRunning = false ∧ State.reset.engine.banks[1].isRunning = false) ∧
    ((s .empty 1).resetHeld = false ∧ (s .empty 1).engine.banks[0] = .running oneJob ∧
      (s .empty 1).engine.banks[1 - 0].isRunning = false ∧
      (s .empty 1).engine.banks[1 - 0].isLoaded = false) ∧
    ((s (.loaded oneJob) 1).engine.banks[1 - 0] = .loaded oneJob ∧
      (s (.loaded oneJob) 1).engine.banks[1 - 0].isRunning = false ∧ oneJob.lane = 0 ∧
      (s (.loaded oneJob) 1).lanes[0].run.queue.records = [] ++ r :: [] ∧ r.id = oneJob.recordId ∧
      (s (.loaded oneJob) 1).lanes[0].runNumber = oneJob.runNumber ∧ r.holding = some (1 - 0) ∧
      r.state = .loaded) ∧
    (s (.loaded oneJob) 2).lanes[0].runNumber ≠ oneJob.runNumber := by decide +kernel

/-- Nothing FINISHED; a job of another run; and a job that matches, with a window at LOOKAHEAD. -/
theorem witness_WriteBackMatchesOrDiscards :
    let r : DefectRecord := { recordOver 20 24 .inRepair with holding := some 0 }
    let s (n : BitVec 8) : State := { releasing with
      lanes := State.reset.lanes.set 0 { withRun releasing.lanes[0] fun run => { run with
        ring := ⟨[], run.ring.window.tail⟩ } with runNumber := n } }
    let e' : Engine := { releasing.engine with
      banks := releasing.engine.banks.set 0 .empty, finishOrder := [] }
    State.reset.engine.finishOrder = [] ∧
    ((s 2).resetHeld = false ∧ (s 2).engine.finishOrder = 0 :: [] ∧
      (s 2).engine.banks[0] = .finished ⟨0, 1, 0, 5, .half .a []⟩ [] ∧
      e' = { (s 2).engine with banks := (s 2).engine.banks.set 0 .empty, finishOrder := [] } ∧
      (s 2).lanes[0].runNumber ≠ 1) ∧
    ((s 1).lanes[0].runNumber = 1 ∧ (s 1).lanes[0].run.queue.records = [] ++ r :: [] ∧ r.id = 0 ∧
      r.state = .inRepair ∧ r.holding = some 0 ∧
      ((s 1).lanes[0].run.ring.window.length : Int) = (s 1).lanes[0].params.get .lookahead) := by
  decide +kernel

/-- Contexts of eight, and a HALF job. -/
theorem witness_RepairArithmetic :
    defaultPredictor.length = 8 ∧ (List.replicate 8 (5 : Int)).length = 8 ∧
      (Job.mk 0 1 7 48 (.interpolate (List.replicate 8 5) (List.replicate 8 5) defaultPredictor)).gap = 48 ∧
      oneJob.work = .half .a [(600, 590, 618)] ∧ (608 : Int) ∈ oneJob.results := by decide +kernel
end Sys2Proof.Tests
end

/-! # Lane states, device reset and the values at reset

What a command does that sets one lane or none, which rows act while RESETn is low, and what the reset
state holds. Settles O14, O15, O5, O6, O7 and O60. -/

namespace Sys2Proof.Machine

/-! ### Commands that change one lane, or nothing -/

/-- A command that is answered and changes nothing more. -/
theorem reply_eq_answered (s : State) (k : Byte) (c : Command) (st : Status) (data : List Byte) :
    s.reply (replyTo (commandFrame k c) ⟨st, data⟩) = s.answered k c st.code data := rfl

/-- A work that differs from the lane it was taken from in the lane alone is that lane replaced. -/
theorem State.putWork_setLane (s : State) (l : LaneId) (x : Lane) :
    s.putWork ((s.work l).setLane x) = s.withLane l x := rfl

/-- A lane command taken: what its body makes of the lane is put back, and the reply waits. -/
theorem takeLane_work {k : Byte} {lenOk : Nat → Bool} {c : Command} {s : State} {l : LaneId}
    {body : Work → Work × Answer} {v : Work} {data : List Byte} (st : Status)
    (ht : s.Takes k c) (hl : c.lane.toNat = l.val) (hn : lenOk c.payload.length = true)
    (hb : body (s.work l) = (v, ⟨st, data⟩)) :
    takeLane k lenOk c body s = (s.putWork v).answered k c st.code data := by
  rw [takeLane_body ht hl hn, hb, reply_eq_answered]

/-- A lane command whose body sets the lane: the lane is replaced, and the reply waits. -/
theorem takeLane_setLane {k : Byte} {lenOk : Nat → Bool} {c : Command} {s : State} {l : LaneId}
    {body : Work → Work × Answer} {x : Lane} {data : List Byte} (st : Status)
    (ht : s.Takes k c) (hl : c.lane.toNat = l.val) (hn : lenOk c.payload.length = true)
    (hb : body (s.work l) = ((s.work l).setLane x, ⟨st, data⟩)) :
    takeLane k lenOk c body s = (s.withLane l x).answered k c st.code data := by
  rw [takeLane_work st ht hl hn hb, State.putWork_setLane]

/-- A lane command whose body leaves the lane as it is: the reply waits. -/
theorem takeLane_unchanged {k : Byte} {lenOk : Nat → Bool} {c : Command} {s : State} {l : LaneId}
    {body : Work → Work × Answer} {data : List Byte} (st : Status)
    (ht : s.Takes k c) (hl : c.lane.toNat = l.val) (hn : lenOk c.payload.length = true)
    (hb : body (s.work l) = (s.work l, ⟨st, data⟩)) :
    takeLane k lenOk c body s = s.answered k c st.code data := by
  rw [takeLane_work st ht hl hn hb, State.putWork_work]

theorem noPayload_of_nil {c : Command} (h : c.payload = []) : noPayload c.payload.length = true := by
  simp [noPayload, h]

/-- A lane command without payload that its lane's state refuses. -/
theorem takeLane_wrongState {k : Byte} {c : Command} {s : State} {l : LaneId}
    {body : Work → Work × Answer} (ht : s.Takes k c) (hl : c.lane.toNat = l.val) (hp : c.payload = [])
    (hb : body (s.work l) = (s.work l, refuse .wrongState)) :
    takeLane k noPayload c body s = s.answered k c 2 [] :=
  takeLane_unchanged .wrongState ht hl (noPayload_of_nil hp) hb

/-! ### Device reset -/

/-- With DEVICE_RESET taken and its reply in front, both rows of that moment reset the part. -/
theorem resetReply_resets {s : State} {f : Frame} {rest : List Frame} (hr : s.resetHeld = false)
    (ht : s.link.taking = false) (ho : s.link.outbound = f :: rest) (hk : f.kind = 0x82)
    (hp : f.payload = [0]) :
    exec .resetAfterReply s = .next (resetAfter s f) ∧ exec .frameSent s = .next (resetAfter s f) := by
  have hf : isResetReply f = true := by simp [isResetReply, hk, hp, Status.code]
  simp [exec, execResetAfterReply, execFrameSent, hr, ht, ho, hf]

/-- While RESETn is low no frame can be taken (R9). -/
theorem not_canTake_of_held {s : State} (h : s.resetHeld = true) (f : Frame) : s.canTake f ≠ true := by
  simp [State.canTake, h]

theorem namedEvent_held {s : State} (h : s.resetHeld = true) (e : StepEvent) (c : Cause) :
    namedEvent e c s = s := by
  simp [namedEvent, h]

/-- While RESETn is low only the pin's own rows change anything (R9, assumption 6). -/
theorem exec_held {s : State} (h : s.resetHeld = true) (i : Instr) (ha : i ≠ .resetnAsserted)
    (hr : i ≠ .resetnReleased) : exec i s = .next s := by
  cases i with
  | identify c | deviceReset c | getLinkStats c | clearLinkStats c =>
    exact congrArg Host.Outcome.next (takeDevice_notTaken (not_canTake_of_held h _) _)
  | enableLane c | disableLane c | startLane c | stopLane c | resetLane c | defaultLane c | queryLane c
  | setParam c | getParam c | readTable c | writeTable c | loadSegment c | endSegment c
  | collectReport c =>
    exact congrArg Host.Outcome.next (takeLane_notTaken (not_canTake_of_held h _) _)
  | setNoticeMask c =>
    simp only [exec, execSetNoticeMask, takeDevice_notTaken (not_canTake_of_held h _),
      takeLane_notTaken (not_canTake_of_held h _), ite_self]
  | unknownKind kind c => simp [exec, execUnknownKind, not_canTake_of_held h]
  | resetnAsserted => exact absurd rfl ha
  | resetnReleased => exact absurd rfl hr
  | sensorWord _ | perfEdge _ | spliceEdge _ | generatorInstant _ =>
    exact congrArg Host.Outcome.next (laneEvent_low h _ _)
  | signalLost _ | signalRecovered _ | trackLock _ | outlierLossOfLock _ | trackTimeout _
  | recordClose _ | templateSwap _ | floorUpdate _ | segmentLengthEnd _ =>
    exact congrArg Host.Outcome.next (namedEvent_held h _ _)
  | jobLoad | jobCompletion | writeBack => exact congrArg Host.Outcome.next (if_pos h)
  | resetAfterReply =>
    simp only [exec, execResetAfterReply, h]
    cases s.link.outbound <;> simp
  | frameReceived codes =>
    simp only [exec, execFrameReceived, h]
    cases framed codes <;> simp
  | replyEntry =>
    simp only [exec, execReplyEntry, h]
    cases s.link.waiting <;> simp
  | noticeFormed latch =>
    cases latch with
    | lane l => exact congrArg Host.Outcome.next (laneEvent_low h _ _)
    | device => simp [exec, execNoticeFormed, formDeviceNotice, h]
  | frameSent =>
    simp only [exec, execFrameSent, h]
    cases s.link.outbound <;> simp

/-! ### The values at reset -/

@[simp] theorem State.reset_lanes (i : LaneId) : State.reset.lanes[i] = Lane.reset := by
  simp [State.reset]

theorem Params.get_defaults (p : Param) : Params.defaults.get p = p.row.default := by
  cases p <;> rfl

/-- The default of each parameter lies in its range. -/
theorem Param.default_inRange (p : Param) : p.row.low ≤ p.row.default ∧ p.row.default ≤ p.row.high := by
  cases p <;> decide

/-- The gain curve, with its index as a natural number (R135). -/
theorem gainCurve_eq (o d : Int) :
    gainCurve o d = (List.range 64).map fun k : Nat =>
      if o ≤ (k : Int) then 32768
      else max (floorShift 32768 d.toNat) (floorDiv (32768 * (k : Int)) o) := by
  simp [gainCurve, ← List.map_eq_flatMap]

/-- The default gain curve under the default HISS_OPEN and HISS_DEPTH. -/
theorem gainCurve_default :
    gainCurve 24 2 = (List.range 64).map fun k : Nat =>
      if 24 ≤ k then (32768 : Int) else max 8192 (32768 * (k : Int) / 24) := by
  rw [gainCurve_eq]
  refine List.map_congr_left fun k _ => ?_
  have hk : (24 : Int) ≤ (k : Int) ↔ 24 ≤ k := by omega
  have hdepth : floorShift 32768 (2 : Int).toNat = 8192 := by decide
  simp only [hk, hdepth, floorDiv]

theorem gainCurve_length (o d : Int) : (gainCurve o d).length = 64 := by simp [gainCurve_eq]

/-- A gain curve of an opening in its range holds gains of 0 to 32,768 (R135). -/
theorem gainCurve_inRange {o d g : Int} (ho : 1 ≤ o) (hg : g ∈ gainCurve o d) : 0 ≤ g ∧ g ≤ 32768 := by
  rw [gainCurve_eq] at hg
  obtain ⟨k, -, rfl⟩ := List.mem_map.1 hg
  split
  · decide
  · rename_i hk
    have hdepth : floorShift 32768 d.toNat ≤ 32768 := Int.ediv_le_self _ (by decide)
    have hramp : floorDiv (32768 * (k : Int)) o ≤ 32768 := Int.ediv_le_of_le_mul (by omega) (by omega)
    have hpos : 0 ≤ floorDiv (32768 * (k : Int)) o := Int.ediv_nonneg (by omega) (by omega)
    exact ⟨hpos.trans (le_max_right _ _), max_le hdepth hramp⟩

theorem Template.zero_ok (n : Nat) : (Template.zero n).Ok n := by
  simp +contextual [Template.Ok, Template.zero, List.mem_replicate, In24]

theorem Lane.reset_paramsOk : Lane.reset.ParamsOk := fun p _ => by
  have h := Params.get_defaults p
  show p.row.low ≤ Params.defaults.get p ∧ Params.defaults.get p ≤ p.row.high
  rw [h]
  exact p.default_inRange

theorem Lane.reset_tablesOk : Lane.reset.TablesOk :=
  ⟨Template.zero_ok 500, Template.zero_ok 960, by decide, by decide, gainCurve_length 24 2,
    fun _ hg => gainCurve_inRange (by decide) hg⟩

theorem Lane.reset_recordsOk : Lane.reset.RecordsOk := by
  simp [Lane.RecordsOk, Lane.reset, Run.ended]

end Sys2Proof.Machine

namespace Sys2Proof.Settled

open Sys2Proof.Machine

/-- Settles O14: each command's own test of the lane state decides between its effect and the refusal. -/
theorem laneStatesAndRefusals : Obligations.LaneStatesAndRefusals := by
  refine ⟨fun c s l hl hp => ⟨fun ht => ⟨fun h => ?_, fun h => ?_⟩, fun ht => ⟨fun h => ?_, fun h => ?_⟩⟩,
    fun c s l hl hp => ⟨fun ht h => ?_, fun ht h => ?_, fun ht h => ?_⟩⟩
  · exact congrArg Host.Outcome.next (takeLane_setLane .ok ht hl (noPayload_of_nil hp) (if_pos h))
  · exact congrArg Host.Outcome.next (takeLane_wrongState ht hl hp (if_neg h))
  · exact congrArg Host.Outcome.next (takeLane_setLane .ok ht hl (noPayload_of_nil hp) (if_pos h))
  · exact congrArg Host.Outcome.next (takeLane_wrongState ht hl hp (if_neg h))
  · exact congrArg Host.Outcome.next (takeLane_wrongState ht hl hp (if_neg h))
  · exact congrArg Host.Outcome.next (takeLane_wrongState ht hl hp (if_neg h))
  · exact congrArg Host.Outcome.next (takeLane_wrongState ht hl hp (if_pos h))

/-- Settles O15: `Lane.start` is the written-out lane. -/
theorem startLaneEffects : Obligations.StartLaneEffects := by
  intro c s l ht hl hp h
  exact congrArg Host.Outcome.next (takeLane_setLane .ok ht hl (noPayload_of_nil hp) (if_pos h))

/-- Settles O5: the command clears `taking`, and both rows of the sent reply are `resetAfter`. -/
theorem deviceResetTakesAndResets : Obligations.DeviceResetTakesAndResets := by
  refine ⟨fun c s ht hl hp => ?_, fun s f rest hr ht ho hk hp => ?_⟩
  · have hlen : c.payload.length = 0 := by simp [hp]
    simp only [exec, execDeviceReset, takeDevice_body ht hl hlen]
    simp [State.reply, State.setLink, replyTo, commandFrame, Status.code, hl]
  · obtain ⟨hreply, hsent⟩ := resetReply_resets hr ht ho hk hp
    exact ⟨hreply, hsent.trans hreply.symm⟩

/-- Settles O6: `exec_held` is its frame. -/
theorem resetLineHoldsAndReleases : Obligations.ResetLineHoldsAndReleases := by
  refine fun s => ⟨rfl, fun h => ⟨congrArg Host.Outcome.next (if_pos h), exec_held h⟩⟩

/-- Settles O7, by the value of each field of `Lane.reset`. -/
theorem resetStateValues : Obligations.ResetStateValues := by
  refine ⟨fun i => ?_, rfl, rfl, rfl, rfl, rfl, rfl, rfl, rfl⟩
  rw [State.reset_lanes]
  exact ⟨rfl, rfl, Params.get_defaults, rfl, rfl, rfl, gainCurve_default, rfl, rfl, rfl, rfl, rfl, rfl,
    rfl, rfl, rfl, rfl, rfl, rfl⟩

/-- Settles O60: nothing is queued, RUNNING or held at reset, and the configuration is the default one. -/
theorem invariantsHoldAtReset : Obligations.InvariantsHoldAtReset := by
  refine ⟨by decide, by decide, fun l r hr => ?_, fun i => ?_⟩
  · rw [State.reset_lanes] at hr
    exact absurd hr (List.not_mem_nil)
  · rw [State.reset_lanes]
    have notRunning : Lane.reset.state ≠ .running := by decide
    exact ⟨Lane.reset_paramsOk, Lane.reset_tablesOk, fun h => absurd h notRunning, by decide, by decide,
      Lane.reset_recordsOk, fun h => absurd h notRunning, by decide⟩

end Sys2Proof.Settled

/-! # The wire, and words and edges that complete no instant

Settles O24 and O25. -/

namespace Sys2Proof.Machine

/-! ### Numbers as bytes -/

theorem be_length (n v : Nat) : (be n v).length = n := by
  induction n generalizing v with
  | zero => rfl
  | succ n ih => simp [be, ih]

/-- Byte k of a field of n bytes has n − 1 − k bytes behind it (R175). -/
theorem be_getElem? (n v k : Nat) :
    (be n v)[k]? = if k < n then some (BitVec.ofNat 8 (v / 256 ^ (n - 1 - k))) else none := by
  induction n generalizing v with
  | zero => simp [be]
  | succ n ih =>
    rw [be]
    rcases Nat.lt_trichotomy k n with hk | hk | hk
    · have hexp : n + 1 - 1 - k = (n - 1 - k) + 1 := by omega
      rw [List.getElem?_append_left (by rwa [be_length]), ih, if_pos hk, if_pos (by omega), hexp,
        Nat.pow_succ', Nat.div_div_eq_div_mul]
    · subst hk
      rw [List.getElem?_append_right (by rw [be_length])]
      simp [be_length]
    · rw [List.getElem?_eq_none (by simp [be_length]; omega), if_neg (by omega)]

/-- A field of n bytes holds its number modulo 256^n. -/
theorem be_mod (n v : Nat) : be n (v % 256 ^ n) = be n v := by
  induction n generalizing v with
  | zero => rfl
  | succ n ih =>
    have hlow : BitVec.ofNat 8 (v % 256 ^ (n + 1)) = BitVec.ofNat 8 v :=
      BitVec.eq_of_toNat_eq (by simp [Nat.pow_succ'])
    rw [be, be, hlow, Nat.pow_succ', Nat.mod_mul_right_div_self, ih]

theorem beInt_of_nonneg (n : Nat) {v : Int} (h : 0 ≤ v) : beInt n v = be n v.toNat := by
  lift v to Nat using h
  have hmod : (v : Int) % 256 ^ n = ((v % 256 ^ n : Nat) : Int) := by push_cast; rfl
  rw [beInt, hmod, Int.toNat_natCast, be_mod, Int.toNat_natCast]

/-- A negative number in its range is spelled in two's complement (R175). -/
theorem beInt_of_neg (n : Nat) {v : Int} (h : v < 0) (hv : -(256 ^ n : Int) ≤ v) :
    beInt n v = be n (256 ^ n + v).toNat := by
  have hmod : v % 256 ^ n = 256 ^ n + v := by
    rw [← Int.add_emod_left, Int.emod_eq_of_lt (by omega) (by omega)]
  rw [beInt, hmod]

/-! ### The sensor word and the check -/

/-- Each bit of a sensor word by the field it lies in (Formats, Sensor word). -/
theorem sensorWord_getLsbD (lane : BitVec 3) (half : BitVec 1) (quality unused : BitVec 2)
    (value : BitVec 24) (i : Nat) :
    (lane ++ half ++ quality ++ unused ++ value : BitVec (3 + 1 + 2 + 2 + 24)).getLsbD i =
      if i < 24 then value.getLsbD i else if i < 26 then unused.getLsbD (i - 24)
      else if i < 28 then quality.getLsbD (i - 26) else if i < 29 then half.getLsbD (i - 28)
      else lane.getLsbD (i - 29) := by
  simp only [BitVec.getLsbD_append, Nat.sub_sub]
  grind

/-- The fields of a sensor word are where the format puts them (Formats, Sensor word). -/
theorem sensorFields_append (lane : BitVec 3) (half : BitVec 1) (quality unused : BitVec 2)
    (value : BitVec 24) :
    sensorFields (lane ++ half ++ quality ++ unused ++ value) =
      ⟨⟨lane.toNat, lane.isLt⟩, if half = 1 then .b else .a,
        if quality = 0 then .ok else if quality = 1 then .clipped else .dark, value.toInt⟩ := by
  have hlane : (lane ++ half ++ quality ++ unused ++ value).extractLsb' 29 3 = lane := by
    refine BitVec.eq_of_getLsbD_eq fun i hi => ?_
    rw [BitVec.getLsbD_extractLsb', sensorWord_getLsbD]
    grind
  have hquality : (lane ++ half ++ quality ++ unused ++ value).extractLsb' 26 2 = quality := by
    refine BitVec.eq_of_getLsbD_eq fun i hi => ?_
    rw [BitVec.getLsbD_extractLsb', sensorWord_getLsbD]
    grind
  have hvalue : (lane ++ half ++ quality ++ unused ++ value).extractLsb' 0 24 = value := by
    refine BitVec.eq_of_getLsbD_eq fun i hi => ?_
    rw [BitVec.getLsbD_extractLsb', sensorWord_getLsbD]
    grind
  have hhalf : (lane ++ half ++ quality ++ unused ++ value).getLsbD 28 = true ↔ half = 1 := by
    have hbit : ∀ h : BitVec 1, h.getLsbD 0 = true ↔ h = 1 := by decide
    rw [sensorWord_getLsbD]
    exact hbit half
  simp only [sensorFields, hlane, hhalf, hquality, hvalue, Quality.ofCode]

/-- One more byte goes through the register bit by bit, the most significant first (R159). -/
theorem crc16_append (bs : List Byte) (b : Byte) :
    crc16 (bs ++ [b]) =
      [7, 6, 5, 4, 3, 2, 1, 0].foldl
        (fun (r : BitVec 16) i =>
          if r.getLsbD 15 = b.getLsbD i then r <<< 1 else (r <<< 1) ^^^ 0x1021) (crc16 bs) := by
  have hbit (r : BitVec 16) (x : Bool) :
      crcBit r x = if r.getLsbD 15 = x then r <<< 1 else (r <<< 1) ^^^ 0x1021 := by
    have hmsb : r.msb = r.getLsbD 15 := BitVec.msb_eq_getLsbD_last r
    rw [crcBit, hmsb]
    cases r.getLsbD 15 <;> cases x <;> rfl
  simp only [crc16, List.foldl_append, List.foldl_cons, List.foldl_nil, crcByte, hbit]

/-! ### The line code -/

/-- What R158 asks of the code of a character: a comma at its head exactly for idle, and a weight that
keeps the running disparity or turns it. -/
abbrev LinkChar.CodeLawful (d : Disparity) (ch : LinkChar) : Prop :=
  (ch = .idle ↔
    (ch.code d).extractLsb' 3 7 = 0b0011111#7 ∨ (ch.code d).extractLsb' 3 7 = 0b1100000#7) ∧
  (weight (ch.code d) = 5 ∧ d.after (ch.code d) = d ∨
    d = .minus ∧ weight (ch.code d) = 6 ∧ d.after (ch.code d) = .plus ∨
    d = .plus ∧ weight (ch.code d) = 4 ∧ d.after (ch.code d) = .minus)

/-- Every code is lawful, those of the data bytes by trial of all. -/
theorem LinkChar.code_lawful (d : Disparity) (ch : LinkChar) : ch.CodeLawful d := by
  have data : ∀ (e : Bool) (i : Fin 256),
      (LinkChar.data (BitVec.ofFin i)).CodeLawful (if e then .plus else .minus) := by decide +kernel
  cases ch with
  | data b => cases d <;> [exact data false b.toFin; exact data true b.toFin]
  | idle | start | stop => cases d <;> decide

/-- No code, in either column, is two characters': the receiver's candidate is the character. -/
theorem LinkChar.eq_of_code_eq {d e : Disparity} {ch ch' : LinkChar} (h : ch.code d = ch'.code e) :
    ch = ch' :=
  Option.some.inj ((candidate_code d ch).symm.trans ((congrArg candidate h).trans (candidate_code e ch')))

/-! ### Words and edges held or discarded -/

theorem takesSensor_iff (w : Work) :
    w.takesSensor = true ↔ w.lane.state = .running ∧ w.lane.params.get .source = 0 := by
  simp [Work.takesSensor, Work.p]

theorem takesSensor_of_listensTo {s : State} {l : LaneId} (h : s.ListensTo l) :
    (s.work l).takesSensor = true := (takesSensor_iff _).2 h.2

theorem takeWord_ignored {w : Work} (h : w.takesSensor = false) (f : SensorFields) :
    takeWord f w = w := by
  simp [takeWord, h]

theorem takeEdge_ignored {w : Work} (h : w.takesSensor = false) (k : EdgeKind) : takeEdge k w = w := by
  simp [takeEdge, h]

theorem takeEdge_held {w : Work} (h : w.takesSensor = true) (k : EdgeKind) :
    takeEdge k w = w.setFront { w.lane.front with heldEdges := w.lane.front.heldEdges ++ [k] } :=
  if_pos h

theorem takeWord_dual {w : Work} (h : w.takesSensor = true) (hr : w.lane.params.get .railMode = 1)
    (f : SensorFields) : takeWord f w = takeDual f w := by
  rw [takeWord, if_pos h]; exact if_pos hr

theorem takeWord_single {w : Work} (h : w.takesSensor = true) (hr : w.lane.params.get .railMode ≠ 1)
    (f : SensorFields) : takeWord f w = completeSensor f.value none f.quality w := by
  rw [takeWord, if_pos h]; exact if_neg hr

/-- The row of a word for lane l, while RESETn is high. -/
theorem exec_sensorWord {s : State} {w : BitVec 32} {l : LaneId} (hs : s.resetHeld = false)
    (hl : (sensorFields w).lane = l) :
    exec (.sensorWord w) s = .next (s.putWork (takeWord (sensorFields w) (s.work l))) := by
  subst hl
  exact congrArg Host.Outcome.next (laneEvent_high hs _ _)

/-- An event of a lane that ignores it changes nothing. -/
theorem laneEvent_ignored {s : State} {l : LaneId} {f : Work → Work} (h : f (s.work l) = s.work l) :
    laneEvent l f s = s := by
  simp [laneEvent, h]

/-- An event of a lane that sets the lane alone. -/
theorem laneEvent_setLane {s : State} {l : LaneId} {f : Work → Work} {x : Lane}
    (hs : s.resetHeld = false) (h : f (s.work l) = (s.work l).setLane x) :
    laneEvent l f s = s.withLane l x := by
  rw [laneEvent_high hs, h, State.putWork_setLane]

end Sys2Proof.Machine

namespace Sys2Proof.Settled

open Sys2Proof.Machine

/-- Settles O24, clause by clause: the fields by their bits, the line code by trial of all characters. -/
theorem wireFieldsAndCheck : Obligations.WireFieldsAndCheck := by
  refine ⟨sensorFields_append, fun n v k => ⟨be_length n v, be_getElem? n v k⟩,
    fun n v => ⟨be_length _ _, beInt_of_nonneg n, beInt_of_neg n⟩,
    ⟨rfl, rfl, rfl, rfl, rfl, rfl, rfl, fun _ _ _ _ _ => ⟨rfl, rfl, rfl⟩⟩, rfl, by decide +kernel,
    crc16_append, by decide, LinkChar.code_lawful, fun _ _ _ _ => LinkChar.eq_of_code_eq⟩

/-- Settles O25: `takeWord` and `takeEdge` on a lane that listens, and on one that does not. -/
theorem wordsAndEdgesHeldOrDiscarded : Obligations.WordsAndEdgesHeldOrDiscarded := by
  refine ⟨fun s l _ hl => ?_, fun s l hl => ?_, fun s l w q v hl hr => ?_⟩
  · have deaf : (s.work l).takesSensor = false := by
      rw [Bool.eq_false_iff, Ne, takesSensor_iff]
      tauto
    refine ⟨fun w hw => ?_, ?_, ?_⟩
    · subst hw
      exact congrArg Host.Outcome.next (laneEvent_ignored (takeWord_ignored deaf _))
    · exact congrArg Host.Outcome.next (laneEvent_ignored (takeEdge_ignored deaf _))
    · exact congrArg Host.Outcome.next (laneEvent_ignored (takeEdge_ignored deaf _))
  · have ht := takesSensor_of_listensTo hl
    exact ⟨congrArg Host.Outcome.next (laneEvent_setLane hl.1 (takeEdge_held ht _)),
      congrArg Host.Outcome.next (laneEvent_setLane hl.1 (takeEdge_held ht _))⟩
  · have ht := takesSensor_of_listensTo hl
    have hdual (f : SensorFields) : takeWord f (s.work l) = takeDual f (s.work l) :=
      takeWord_dual ht hr f
    refine ⟨fun hw hp => ?_, fun hw hp => ?_, fun hw hp => ?_⟩
    · rw [exec_sensorWord hl.1 (by rw [hw]), hdual, hw]
      simp only [takeDual, State.work_lane, hp]
      rfl
    · obtain ⟨a, ha⟩ := Option.ne_none_iff_exists'.1 hp
      rw [exec_sensorWord hl.1 (by rw [hw]), hdual, hw]
      simp only [takeDual, State.work_lane, ha]
      rfl
    · rw [exec_sensorWord hl.1 (by rw [hw]), hdual, hw]
      simp only [takeDual, State.work_lane, hp]
      rfl

end Sys2Proof.Settled

/-! # An event stays in its lane, and an instant completes

The frames of a lane's event, what a completed instant makes of the front end, and the generated instant.
Settles O28, O26 and O27. -/

namespace Sys2Proof.Machine

/-! ### Events of one lane -/

theorem OnlyLane.refl (l : LaneId) (s : State) : OnlyLane l s s :=
  ⟨fun _ _ => rfl, rfl, rfl, rfl, rfl, rfl, rfl, rfl, rfl, rfl, rfl, rfl, rfl, rfl⟩

theorem SameConfiguration.refl (l : Lane) : SameConfiguration l l := ⟨rfl, rfl, rfl, rfl, rfl, rfl⟩

theorem SameConfiguration.trans {a b c : Lane} (h : SameConfiguration a b)
    (k : SameConfiguration b c) : SameConfiguration a c := by
  obtain ⟨h1, h2, h3, h4, h5, h6⟩ := h
  obtain ⟨k1, k2, k3, k4, k5, k6⟩ := k
  exact ⟨k1.trans h1, k2.trans h2, k3.trans h3, k4.trans h4, k5.trans h5, k6.trans h6⟩

/-- What a work puts back stands in its lane, the outbound queue and the count of stream drops. -/
theorem onlyLane_putWork {l : LaneId} (s : State) {w : Work} (h : w.id = l) :
    OnlyLane l s (s.putWork w) := by
  refine ⟨fun i hi => ?_, rfl, rfl, rfl, rfl, rfl, rfl, rfl, rfl, rfl, rfl, rfl, rfl, rfl⟩
  rw [State.lanes_putWork, if_neg (h ▸ hi)]

theorem State.lane_putWork {l : LaneId} (s : State) {w : Work} (h : w.id = l) :
    (s.putWork w).lanes[l] = w.lane := by
  rw [State.lanes_putWork, if_pos h.symm]

/-- An event that keeps its work's id and configuration stays in its lane and keeps the configuration. -/
theorem laneEvent_stays {s : State} {l : LaneId} {f : Work → Work} (hid : (f (s.work l)).id = l)
    (hc : SameConfiguration s.lanes[l] (f (s.work l)).lane) :
    OnlyLane l s (laneEvent l f s) ∧ SameConfiguration s.lanes[l] (laneEvent l f s).lanes[l] := by
  unfold laneEvent
  split
  · exact ⟨.refl l s, .refl _⟩
  · exact ⟨onlyLane_putWork s hid, by rwa [State.lane_putWork s hid]⟩

theorem laneEvent_stays_of_keeps {s : State} {l : LaneId} {f : Work → Work}
    (h : (s.work l).Keeps (f (s.work l))) :
    OnlyLane l s (laneEvent l f s) ∧ SameConfiguration s.lanes[l] (laneEvent l f s).lanes[l] :=
  laneEvent_stays h.id h.config

/-- A notice takes the latch and a frame of the outbound queue, and no configuration (R173). -/
theorem formLaneNotice_stays (id : LaneId) (w : Work) :
    (formLaneNotice id w).id = w.id ∧ SameConfiguration w.lane (formLaneNotice id w).lane := by
  unfold formLaneNotice
  split
  · exact ⟨rfl, rfl, rfl, rfl, rfl, rfl, rfl⟩
  · exact ⟨rfl, .refl _⟩

/-! ### The blocks of an instant, on the front end and the run -/

/-- The signal watch is the table of R16. -/
theorem FrontEnd.watch_eq (f : FrontEnd) (q : Quality) :
    f.watch q =
      { f with
        signal := (signalAfter f q).1
        darkRun := (signalAfter f q).2.1
        recoveryRun := (signalAfter f q).2.2 } := by
  obtain ⟨pendingA, heldEdges, nextIndex, signal, darkRun, recoveryRun, holdValue⟩ := f
  unfold FrontEnd.watch signalAfter Config.signalThreshold
  cases signal with
  | ok =>
    cases q with
    | dark => by_cases hd : 64 ≤ darkRun + 1 <;> simp [hd]
    | ok | clipped => rfl
  | lost =>
    cases q with
    | dark => rfl
    | ok | clipped => by_cases hr : 64 ≤ recoveryRun + 1 <;> simp [hr]

/-- From f to f' the front end keeps all but the hold value. -/
def FrontEnd.SameButHold (f f' : FrontEnd) : Prop := { f' with holdValue := f.holdValue } = f

theorem FrontEnd.SameButHold.trans {a b c : FrontEnd} (h : a.SameButHold b) (k : b.SameButHold c) :
    a.SameButHold c := by
  unfold FrontEnd.SameButHold at *
  rw [← k] at h
  exact h

theorem FrontEnd.SameButHold.eq {f f' : FrontEnd} (h : f.SameButHold f') :
    f' = { f with holdValue := f'.holdValue } := by
  cases f; cases f'; simp_all [FrontEnd.SameButHold]

/-- The signal watch leaves the front end as R16 has it, but for the hold value, which departures and a
recovery leave alone but outputs may set. -/
theorem watchSignal_input (q : Quality) (w : Work) :
    (w.lane.front.watch q).SameButHold (watchSignal q w).lane.front ∧
      (watchSignal q w).lane.run.generator = w.lane.run.generator ∧
      (watchSignal q w).lane.run.tracker = w.lane.run.tracker ∧
      (watchSignal q w).lane.run.resampler = w.lane.run.resampler := by
  have both {v : Work} (h : (w.setFront (w.lane.front.watch q)).KeepsBoth v) :
      (w.lane.front.watch q).SameButHold v.lane.front ∧
        v.lane.run.generator = w.lane.run.generator ∧ v.lane.run.tracker = w.lane.run.tracker ∧
        v.lane.run.resampler = w.lane.run.resampler :=
    ⟨h.2.front, h.2.generator, h.2.tracker, h.2.resampler⟩
  unfold watchSignal
  dsimp only
  split
  · exact both (onSignalLost_keeps _)
  · exact both (onSignalRecovered_keeps _)
  · exact both (.refl _)

/-- The signal state after the watch (R16). -/
theorem watchSignal_signal (q : Quality) (w : Work) :
    (watchSignal q w).lane.front.signal = (signalAfter w.lane.front q).1 := by
  have h := congrArg FrontEnd.signal (watchSignal_input q w).1
  rw [FrontEnd.watch_eq] at h
  exact h

/-- From w to w' the front end stays, and of the run the tracker, the step and the pending PERF marks
alone change. -/
structure Work.OnlyTracked (w w' : Work) : Prop where
  front : w'.lane.front = w.lane.front
  run : w'.lane.run =
    { w.lane.run with
      tracker := w'.lane.run.tracker
      resampler := { w.lane.run.resampler with
        step := w'.lane.run.resampler.step
        perfMarks := w'.lane.run.resampler.perfMarks } }

theorem Work.OnlyTracked.refl (w : Work) : w.OnlyTracked w := ⟨rfl, rfl⟩

theorem Work.OnlyTracked.trans {a b c : Work} (h : a.OnlyTracked b) (k : b.OnlyTracked c) :
    a.OnlyTracked c := ⟨k.front.trans h.front, k.run.trans (by rw [h.run])⟩

@[simp] theorem Work.putTracker_front (w : Work) (t : Tracker) :
    (w.putTracker t).lane.front = w.lane.front := by
  unfold Work.putTracker; dsimp only; split <;> rfl

@[simp] theorem Work.putTracker_run (w : Work) (t : Tracker) :
    (w.putTracker t).lane.run = { w.lane.run with tracker := t } := by
  unfold Work.putTracker; dsimp only; split <;> rfl

theorem trackEdge_onlyTracked (k : Pos) (w : Work) : w.OnlyTracked (trackEdge k w) :=
  ⟨by simp [trackEdge], by simp [trackEdge]⟩

theorem trackEdges_onlyTracked (k : Pos) (n : Nat) (w : Work) : w.OnlyTracked (trackEdges k n w) := by
  induction n generalizing w with
  | zero => exact .refl w
  | succ n ih => exact (trackEdge_onlyTracked k w).trans (ih _)

theorem trackTimeout_onlyTracked (k : Pos) (w : Work) : w.OnlyTracked (trackTimeout k w) :=
  ⟨by simp [trackTimeout], by simp [trackTimeout]⟩

theorem trackInstant_onlyTracked (k : Pos) (n : Nat) (w : Work) :
    w.OnlyTracked (trackInstant k n w) :=
  (trackEdges_onlyTracked k n w).trans (trackTimeout_onlyTracked k _)

/-- A changed E changes the step and nothing else (R38). -/
theorem restep_onlyTracked (w : Work) (e : Int) : w.OnlyTracked (w.restep e) := by
  unfold Work.restep
  dsimp only
  split
  · exact .refl w
  · exact ⟨rfl, rfl⟩

/-- The tracker's part of an instant, with the step that follows it (R26, R38). -/
theorem trackStage_onlyTracked (k : Pos) (n : Nat) (e : Int) (w : Work) :
    w.OnlyTracked ((trackInstant k n w).restep e) :=
  (trackInstant_onlyTracked k n w).trans (restep_onlyTracked _ e)

@[simp] theorem resampleInstant_prev (next : PrevInstant) (b : Bool) (w : Work) :
    (resampleInstant next b w).lane.run.resampler.prev = some next := rfl

/-- The resampler's outputs leave the front end but for the hold value, and the generator. -/
theorem resampleInstant_input (next : PrevInstant) (b : Bool) (w : Work) :
    w.lane.front.SameButHold (resampleInstant next b w).lane.front ∧
      (resampleInstant next b w).lane.run.generator = w.lane.run.generator := by
  unfold resampleInstant
  dsimp only
  split
  · rename_i p _
    obtain ⟨hf, hg, -⟩ := produceUpTo_frame p next Config.outputsPerInstant
      (w.setRun { w.lane.run with resampler := { w.lane.run.resampler with
        spliceMarks := if (b && !decide (next.index ∈ w.lane.run.resampler.spliceMarks)) = true then
          w.lane.run.resampler.spliceMarks ++ [next.index] else w.lane.run.resampler.spliceMarks } })
    exact ⟨hf, hg⟩
  · exact ⟨rfl, rfl⟩

/-! ### An instant -/

/-- A completed instant by its stages: v is the lane after the signal watch (R26). -/
theorem completeInstant_eq (x : Int) (h : Option Halves) (q : Quality) (es : List EdgeKind)
    {w v : Work}
    (hv : v = watchSignal q
      (w.setFront { w.lane.front with nextIndex := w.lane.front.nextIndex + 1 })) :
    completeInstant x h q es w =
      resampleInstant
        ⟨x, h, decide (q ≠ .ok ∧ v.lane.front.signal = .ok), w.lane.front.nextIndex⟩
        (decide (.splice ∈ es ∧ v.lane.front.signal = .ok))
        ((trackInstant w.lane.front.nextIndex (es.count .perf) v).restep v.lane.run.tracker.e) := by
  subst hv
  simp [completeInstant, suspectMark]

/-- What a completed instant makes of the front end and of the generator (R15, R16). -/
theorem completeInstant_input (x : Int) (h : Option Halves) (q : Quality) (es : List EdgeKind)
    (w : Work) :
    (({ w.lane.front with nextIndex := w.lane.front.nextIndex + 1 } : FrontEnd).watch q).SameButHold
        (completeInstant x h q es w).lane.front ∧
      (completeInstant x h q es w).lane.run.generator = w.lane.run.generator := by
  obtain ⟨hwf, hwg, -⟩ := watchSignal_input q
    (w.setFront { w.lane.front with nextIndex := w.lane.front.nextIndex + 1 })
  rw [completeInstant_eq x h q es rfl]
  simp only [Work.setFront_lane] at hwf hwg
  generalize watchSignal q _ = v at hwf hwg ⊢
  have ht := trackStage_onlyTracked w.lane.front.nextIndex (es.count .perf) v.lane.run.tracker.e v
  obtain ⟨hrf, hrg⟩ := resampleInstant_input
    ⟨x, h, decide (q ≠ .ok ∧ v.lane.front.signal = .ok), w.lane.front.nextIndex⟩
    (decide (.splice ∈ es ∧ v.lane.front.signal = .ok))
    ((trackInstant w.lane.front.nextIndex (es.count .perf) v).restep v.lane.run.tracker.e)
  rw [ht.front] at hrf
  have hug := congrArg Run.generator ht.run
  exact ⟨hwf.trans hrf, hrg.trans (hug.trans hwg)⟩

theorem lane_putWork_completeInstant {l : LaneId} (s : State) {w : Work} (hid : w.id = l) (x : Int)
    (h : Option Halves) (q : Quality) (es : List EdgeKind) :
    (s.putWork (completeInstant x h q es w)).lanes[l] = (completeInstant x h q es w).lane :=
  State.lane_putWork s ((completeInstant_keeps x h q es w).id.trans hid)

/-- A completed instant from lane l as an event has left it, but for its pending word and held edges, is
`Completed`. -/
theorem completed_putWork {s : State} {l : LaneId} {w : Work} {pendingA : Option PendingWord}
    {edges : List EdgeKind} (x : Int) (h : Option Halves) (q : Quality) (es : List EdgeKind)
    (hid : w.id = l) (hc : SameConfiguration s.lanes[l] w.lane)
    (hf : w.lane.front = { s.lanes[l].front with pendingA, heldEdges := edges }) :
    Completed l s (s.putWork (completeInstant x h q es w)) x h q pendingA edges := by
  have keeps := completeInstant_keeps x h q es w
  have hfront := (completeInstant_input x h q es w).1.eq
  have hsignal : (watchSignal q
      (w.setFront { w.lane.front with nextIndex := w.lane.front.nextIndex + 1 })).lane.front.signal =
        (signalAfter s.lanes[l].front q).1 := by
    rw [watchSignal_signal, Work.setFront_lane, hf]
    rfl
  refine ⟨onlyLane_putWork s (keeps.id.trans hid), ?_, ?_, ?_⟩ <;>
    rw [lane_putWork_completeInstant s hid]
  · exact hc.trans keeps.config
  · refine hfront.trans ?_
    rw [FrontEnd.watch_eq, hf]
    rfl
  · rw [completeInstant_eq x h q es rfl, resampleInstant_prev, hsignal, hf]

/-! ### The instants that words complete -/

/-- The worse of two qualities, said by cases (R13). -/
theorem Quality.worse_eq (a b : Quality) :
    a.worse b = if a = .dark ∨ b = .dark then .dark
      else if a = .clipped ∨ b = .clipped then .clipped else .ok := by
  cases a <;> cases b <;> rfl

/-- A word on a single-rail lane completes an instant with the held edges (R12, R20). -/
theorem takeWord_completes_single {s : State} {l : LaneId} (f : SensorFields) (hl : s.ListensTo l)
    (hr : s.lanes[l].params.get .railMode ≠ 1) :
    takeWord f (s.work l) =
      completeInstant f.value none f.quality s.lanes[l].front.heldEdges
        ((s.work l).setFront { s.lanes[l].front with heldEdges := [] }) :=
  takeWord_single (takesSensor_of_listensTo hl) hr f

/-- A B word on a pending A word completes an instant with the held edges (R13, R20). -/
theorem takeWord_completes_dual {s : State} {l : LaneId} {f : SensorFields} {a : PendingWord}
    (hl : s.ListensTo l) (hr : s.lanes[l].params.get .railMode = 1) (hb : f.half = .b)
    (ha : s.lanes[l].front.pendingA = some a) :
    takeWord f (s.work l) =
      completeInstant ((a.value + f.value) / 2) (some ⟨a.value, f.value⟩) (a.quality.worse f.quality)
        s.lanes[l].front.heldEdges
        ((s.work l).setFront { s.lanes[l].front with pendingA := none, heldEdges := [] }) := by
  rw [takeWord_dual (takesSensor_of_listensTo hl) hr f]
  simp only [takeDual, hb, State.work_lane, ha]
  rfl

/-! ### The Test Generator -/

/-- The triangle's rising and falling halves stay within the amplitude (R23). -/
theorem triangle_bounds {T A φ : Int} (hA : 0 ≤ A) (h0 : 0 ≤ φ) (hφ : φ < T) :
    -A ≤ triangle T A φ ∧ triangle T A φ ≤ A := by
  have part {m n : Int} (hm : 0 ≤ m) (hmn : m ≤ n) (hn : 0 < n) :
      0 ≤ floorDiv (2 * A * m) n ∧ floorDiv (2 * A * m) n ≤ 2 * A :=
    ⟨Int.ediv_nonneg (by positivity) hn.le,
      Int.ediv_le_of_le_mul hn (mul_le_mul_of_nonneg_left hmn (by positivity))⟩
  unfold triangle
  dsimp only
  have hhalf : floorDiv T 2 = T / 2 := rfl
  split
  · obtain ⟨hlow, hhigh⟩ := part (m := φ) (n := floorDiv T 2) h0 (by omega) (by omega)
    omega
  · obtain ⟨hlow, hhigh⟩ := part (m := φ - floorDiv T 2) (n := T - floorDiv T 2) (by omega) (by omega)
      (by omega)
    omega

/-- The impulse instants, told by the count (R23). -/
theorem Generator.impulse_eq (g : Generator) (spacing : Int) :
    g.impulse spacing.toNat = decide (1 ≤ spacing ∧ spacing ≤ (g.impulseCount : Int) + 1) := by
  rw [Generator.impulse, Bool.eq_iff_iff]
  simp
  omega

/-- The edges of a generated instant, told by the perforation counts (R24). -/
theorem Generator.edges_eq (g : Generator) (spacing : Int) :
    g.edges spacing.toNat =
      if g.perfGap ≠ 0 then []
      else if 1 ≤ spacing ∧ 1 ≤ g.perfCount ∧ (g.perfCount : Int) % spacing = 0 then [.perf, .splice]
      else [.perf] := by
  have hsplice : (0 < spacing.toNat ∧ 1 ≤ g.perfCount ∧ g.perfCount % spacing.toNat = 0) ↔
      (1 ≤ spacing ∧ 1 ≤ g.perfCount ∧ (g.perfCount : Int) % spacing = 0) := by
    by_cases hs : 1 ≤ spacing
    · lift spacing to Nat using by omega
      rw [Int.toNat_natCast]
      omega
    · omega
  unfold Generator.edges
  simp only [hsplice, ne_eq, ite_not]

/-- The generator's counts after an instant, with the parameters as they are stored (R23, R24). -/
theorem Generator.advance_eq (g : Generator) (period spacing nom : Int) :
    g.advance period.toNat spacing.toNat nom.toNat =
      { phase := if (g.phase : Int) + 1 < period then g.phase + 1 else 0
        impulseCount := if g.impulse spacing.toNat = true then 0 else g.impulseCount + 1
        perfGap := if (g.perfGap : Int) + 1 < nom then g.perfGap + 1 else 0
        perfCount := if g.perfGap = 0 then g.perfCount + 1 else g.perfCount } := by
  have below (n : Nat) (k : Int) : n + 1 < k.toNat ↔ (n : Int) + 1 < k := by omega
  simp only [Generator.advance, below]

/-- The instant that the generator completes on a RUNNING lane whose SOURCE is GENERATOR (R22 to R24). -/
theorem generateInstant_eq {w : Work} {x : Int} {halves : Option Halves} {v : Int} {imp : Bool}
    (hs : w.lane.state = .running) (hsrc : w.lane.params.get .source = 1)
    (hv : v = triangle (w.lane.params.get .genPeriod) (w.lane.params.get .genAmplitude)
      w.lane.run.generator.phase)
    (hi : imp = w.lane.run.generator.impulse (w.lane.params.get .genImpulseSpacing).toNat)
    (hx : (x, halves) = generatedValues (w.lane.params.get .railMode == 1) v
      (w.lane.params.get .genImpulseHeight) imp) :
    generateInstant w =
      completeInstant x halves .ok
        (w.lane.run.generator.edges (w.lane.params.get .genSpliceSpacing).toNat)
        (w.setRun { w.lane.run with
          generator := w.lane.run.generator.advance (w.lane.params.get .genPeriod).toNat
            (w.lane.params.get .genImpulseSpacing).toNat (w.lane.params.get .nom).toNat }) := by
  subst hv hi
  have hguard : (decide (w.lane.state = .running) && w.p .source == 1) = true := by
    simp [hs, hsrc, Work.p]
  unfold generateInstant
  rw [if_pos hguard]
  obtain ⟨rfl, rfl⟩ := Prod.mk.inj hx
  rfl

end Sys2Proof.Machine

namespace Sys2Proof.Settled

open Sys2Proof.Machine

/-- Settles O28: each of the rows is an event of its lane that keeps the configuration. -/
theorem inputsStayInTheirLane : Obligations.InputsStayInTheirLane := by
  intro s t l i hi ht
  rcases hi with rfl | rfl | rfl | rfl | ⟨w, rfl, rfl⟩
  · obtain rfl := Host.Outcome.next.inj ht
    exact laneEvent_stays_of_keeps (takeEdge_keeps .perf _)
  · obtain rfl := Host.Outcome.next.inj ht
    exact laneEvent_stays_of_keeps (takeEdge_keeps .splice _)
  · obtain rfl := Host.Outcome.next.inj ht
    exact laneEvent_stays_of_keeps (generateInstant_keeps _)
  · obtain rfl := Host.Outcome.next.inj ht
    obtain ⟨hid, hc⟩ := formLaneNotice_stays l (s.work l)
    exact laneEvent_stays hid hc
  · obtain rfl := Host.Outcome.next.inj ht
    exact laneEvent_stays_of_keeps (takeWord_keeps _ _)

/-- Settles O26: both kinds of word end in `completeInstant`. -/
theorem wordCompletesInstant : Obligations.WordCompletesInstant := by
  intro s l w h q v hl hw
  have hexec : exec (.sensorWord w) s = .next (s.putWork (takeWord ⟨l, h, q, v⟩ (s.work l))) := by
    rw [exec_sensorWord hl.1 (by rw [hw]), hw]
  refine ⟨fun hr => ?_, fun a q' hr hb ha hq => ?_⟩
  · rw [takeWord_completes_single _ hl (by rw [hr]; decide)] at hexec
    exact ⟨_, hexec, completed_putWork _ _ _ _ rfl (.refl _) rfl, rfl⟩
  · rw [takeWord_completes_dual hl hr hb ha, Quality.worse_eq, ← hq] at hexec
    exact ⟨_, hexec, completed_putWork _ _ _ _ rfl (.refl _) rfl, rfl⟩

/-- Settles O27: the generated instant is `completeInstant` with the values, edges and counts of R23 and R24. -/
theorem generatorCompletesInstant : Obligations.GeneratorCompletesInstant := by
  refine ⟨fun T A φ _ hA h0 hφ => ⟨rfl, triangle_bounds hA h0 hφ⟩, ?_⟩
  intro s l g g' v a x impulse halves edges hr hs hsrc hg hv himp ha hx hedges hg'
  subst hg
  have himp' := himp.trans
    (Generator.impulse_eq s.lanes[l].run.generator (s.lanes[l].params.get .genImpulseSpacing)).symm
  have hvalues : (x, halves) = generatedValues (s.lanes[l].params.get .railMode == 1) v
      (s.lanes[l].params.get .genImpulseHeight) impulse := by
    rw [hx, ha]
    simp only [generatedValues, beq_iff_eq]
    rfl
  have hinstant := generateInstant_eq (w := s.work l) hs hsrc hv himp' hvalues
  rw [State.work_lane, Generator.edges_eq, ← hedges, Generator.advance_eq, ← himp', ← hg'] at hinstant
  have hexec : exec (.generatorInstant l) s = .next (s.putWork (generateInstant (s.work l))) :=
    congrArg Host.Outcome.next (laneEvent_high hr _ _)
  rw [hinstant] at hexec
  refine ⟨?_, _, hexec, completed_putWork _ _ _ _ rfl (.refl _) rfl, rfl, ?_⟩
  · unfold State.completes
    dsimp only
    rw [if_pos ⟨hr, hs, hsrc, rfl⟩, ← hedges]
  · exact (congrArg (fun y : Lane => y.run.generator)
      (lane_putWork_completeInstant s rfl _ _ _ _)).trans (completeInstant_input _ _ _ _ _).2

end Sys2Proof.Settled

/-! # The outputs that an instant hands on

Interpolation, the marks an output reaches, and the outputs of an instant one by one. Settles O33. -/

namespace Sys2Proof.Machine

/-- A floored product with a fraction lies between 0 and the whole (R40). -/
theorem interpolate_bounds (v0 v1 : Int) {f : Nat} (hf : f < 65536) :
    min v0 v1 ≤ interpolate v0 v1 f ∧ interpolate v0 v1 f ≤ max v0 v1 := by
  unfold interpolate floorDiv
  rcases le_total v0 v1 with h | h
  · have hlow : 0 ≤ (v1 - v0) * f / 65536 := Int.ediv_nonneg (by nlinarith) (by decide)
    have hhigh : (v1 - v0) * f / 65536 ≤ v1 - v0 := Int.ediv_le_of_le_mul (by decide) (by nlinarith)
    omega
  · have hlow : v1 - v0 ≤ (v1 - v0) * f / 65536 := Int.le_ediv_of_mul_le (by decide) (by nlinarith)
    have hhigh : (v1 - v0) * f / 65536 ≤ 0 := Int.ediv_le_of_le_mul (by decide) (by nlinarith)
    omega

theorem interpolate_zero (v0 v1 : Int) : interpolate v0 v1 0 = v0 := by
  simp [interpolate, floorDiv]

/-- A single-rail output is interpolated between the instants' values (R40). -/
theorem outputAt_single (l : Lane) {p : PrevInstant} (n : PrevInstant) (hp : p.halves = none) :
    (outputAt l p n).halves = none ∧
      (outputAt l p n).x = interpolate p.x n.x (rpFraction l.run.resampler.rp) := by
  simp [outputAt, interpolateHalves, outputValue, hp]

/-- A dual-rail output is formed from its interpolated halves (R41). -/
theorem outputAt_dual (l : Lane) {p n : PrevInstant} {h h' : Halves} (hp : p.halves = some h)
    (hn : n.halves = some h') (f : Nat) (hf : f = rpFraction l.run.resampler.rp) :
    (outputAt l p n).halves = some ⟨interpolate h.a h'.a f, interpolate h.b h'.b f⟩ ∧
      (outputAt l p n).x = (interpolate h.a h'.a f + interpolate h.b h'.b f) / 2 := by
  simp [outputAt, interpolateHalves, outputValue, floorDiv, hp, hn, hf]

/-- A mark is reached when RP is at most half the circle ahead of its instant (R44). -/
theorem reached_eq (rp : BitVec 48) (m : Pos) :
    reached rp m =
      decide ((rp.toNat + 281474976710656 - 65536 * m.toNat) % 281474976710656 < 140737488355328) := by
  have hm := m.isLt
  have hmark : (m.setWidth 48 <<< 16).toNat = 65536 * m.toNat := by
    simp [BitVec.toNat_shiftLeft, Nat.shiftLeft_eq]
    omega
  have hdiff : (rp - (m.setWidth 48 <<< 16)).toNat =
      (rp.toNat + 281474976710656 - 65536 * m.toNat) % 281474976710656 := by
    rw [BitVec.toNat_sub, hmark]
    norm_num
    omega
  rw [reached, hdiff]
  norm_num

/-- The index that RP stands at, as a number (R39). -/
theorem rpIndex_toNat (rp : BitVec 48) : (rpIndex rp).toNat = rp.toNat / 65536 := by
  have := rp.isLt
  simp [rpIndex, Nat.shiftRight_eq_div_pow]
  omega

/-- With the step in its range, 21 outputs take RP off the index it stood at (R37). -/
theorem rpIndex_after_outputs {rp : BitVec 48} {step : Int} (hlow : 3276 ≤ step)
    (hhigh : step ≤ 26214400) : rpIndex (rp + BitVec.ofInt 48 (21 * step)) ≠ rpIndex rp := by
  intro h
  have hrp := rp.isLt
  have hadvance : (BitVec.ofInt 48 (21 * step)).toNat = (21 * step).toNat := by
    rw [BitVec.toNat_ofInt, Int.emod_eq_of_lt (by omega) (by norm_num; omega)]
  have hnat := congrArg BitVec.toNat h
  rw [rpIndex_toNat, rpIndex_toNat, BitVec.toNat_add, hadvance] at hnat
  norm_num at hnat hrp
  have hturns : (rp.toNat + (21 * step).toNat) / 281474976710656 = 0 ∨
      (rp.toNat + (21 * step).toNat) / 281474976710656 = 1 := by omega
  rcases hturns with hturn | hturn <;> omega

/-- A handed SPLICE edge becomes a pending mark at the instant's index, once (R45). -/
def Work.withSplice (w : Work) (index : Pos) (splice : Bool) : Work :=
  w.setRun { w.lane.run with
    resampler := { w.lane.run.resampler with
      spliceMarks :=
        if splice = true ∧ index ∉ w.lane.run.resampler.spliceMarks then
          w.lane.run.resampler.spliceMarks ++ [index]
        else w.lane.run.resampler.spliceMarks } }

/-- The instant becomes the previous one. -/
def Work.withPrev (w : Work) (next : PrevInstant) : Work :=
  w.setRun { w.lane.run with resampler := { w.lane.run.resampler with prev := some next } }

theorem resampleInstant_first {w : Work} (h : w.lane.run.resampler.prev = none) (next : PrevInstant)
    (splice : Bool) :
    resampleInstant next splice w = (w.withSplice next.index splice).withPrev next := by
  simp [resampleInstant, h, Work.withSplice, Work.withPrev]

theorem resampleInstant_later {w : Work} {p : PrevInstant} (h : w.lane.run.resampler.prev = some p)
    (next : PrevInstant) (splice : Bool) :
    resampleInstant next splice w =
      (produceUpTo p next 21 (w.withSplice next.index splice)).withPrev next := by
  simp [resampleInstant, h, Work.withSplice, Work.withPrev, Config.outputsPerInstant]

/-- Without an output an instant leaves the detector as it is (R39). -/
theorem resampleInstant_detector_of_noOutput {w : Work}
    (hn : ∀ p ∈ w.lane.run.resampler.prev, rpIndex w.lane.run.resampler.rp ≠ p.index)
    (next : PrevInstant) (splice : Bool) :
    (resampleInstant next splice w).lane.run.detector = w.lane.run.detector := by
  cases hp : w.lane.run.resampler.prev with
  | none => rw [resampleInstant_first hp]; rfl
  | some p =>
    have hstop : produceUpTo p next 21 (w.withSplice next.index splice) =
        w.withSplice next.index splice := if_neg (hn p hp)
    rw [resampleInstant_later hp, hstop]
    rfl

/-- The outputs of an instant, with their number (R37, R39). -/
theorem resampleInstant_outputs {w : Work} {p : PrevInstant} (h : w.lane.run.resampler.prev = some p)
    (next : PrevInstant) (splice : Bool) :
    ∃ n ≤ 21,
      resampleInstant next splice w =
        ((produce p next)^[n] (w.withSplice next.index splice)).withPrev next ∧
      (∀ k < n, rpIndex ((produce p next)^[k]
        (w.withSplice next.index splice)).lane.run.resampler.rp = p.index) ∧
      (3276 ≤ w.lane.run.resampler.step → w.lane.run.resampler.step ≤ 26214400 →
        rpIndex ((produce p next)^[n]
          (w.withSplice next.index splice)).lane.run.resampler.rp ≠ p.index) := by
  obtain ⟨n, hn, he, hin, hout⟩ := produceUpTo_eq p next 21 (w.withSplice next.index splice)
  refine ⟨n, hn, by rw [resampleInstant_later h, he], hin, fun hlow hhigh => ?_⟩
  rcases Nat.lt_or_eq_of_le hn with hlt | rfl
  · exact hout hlt
  · have hstart := hin 0 (by decide)
    rw [(produce_iterate_rp p next 21 _).1]
    exact fun hend => rpIndex_after_outputs hlow hhigh (hend.trans hstart.symm)

end Sys2Proof.Machine

namespace Sys2Proof.Settled

open Sys2Proof.Machine

/-- Settles O33: the outputs are `produceUpTo_eq`'s iterates, which the step's range bounds. -/
theorem instantHandsOnItsOutputs : Obligations.InstantHandsOnItsOutputs := by
  refine ⟨fun v0 v1 f hf => ⟨rfl, interpolate_zero v0 v1, interpolate_bounds v0 v1 hf⟩,
    fun l p n f hf => ⟨fun hp => hf ▸ outputAt_single l n hp,
      fun h h' hp hn => outputAt_dual l hp hn f hf⟩,
    fun x h q edges w v k hk hv => ?_, reached_eq, fun w w' next splice hw => ?_⟩
  · subst hk
    exact completeInstant_eq x h q edges hv
  · have hw' : w' = w.withSplice next.index splice := hw
    subst hw'
    refine ⟨fun h => resampleInstant_first h next splice, fun p h => ⟨fun v r hr => ?_, ?_⟩⟩
    · subst hr
      rfl
    · exact resampleInstant_outputs h next splice

end Sys2Proof.Settled

/-! # Stopping and resetting a lane

The fate of a segment's last block, the end of a RUNNING segment, and the stop effects. Settles O16 and
O17. -/

namespace Sys2Proof.Machine

/-! ### The RUNNING slot -/

theorem Slot.isRunning_iff {x : Slot} : x.isRunning = true ↔ ∃ d r q m, x = .running d r q m := by
  cases x <;> simp [Slot.isRunning]

/-- The running slot is RUNNING, and slot B only while slot A is not. -/
theorem Lane.runningSlot_eq_some {l : Lane} {i : SlotId} :
    l.runningSlot = some i ↔
      (l.slot i).isRunning = true ∧ (i = .b → l.slotA.isRunning = false) := by
  unfold Lane.runningSlot
  cases i <;> cases hA : l.slotA.isRunning <;> cases hB : l.slotB.isRunning <;> simp [Lane.slot, hA, hB]

theorem Lane.exists_of_runningSlot {l : Lane} {i : SlotId} (h : l.runningSlot = some i) :
    ∃ d r q m, l.slot i = .running d r q m :=
  Slot.isRunning_iff.1 (Lane.runningSlot_eq_some.1 h).1

/-- A change of the running slot leaves slot A where it is not RUNNING. -/
theorem Lane.setSlot_slotA_of_running {l : Lane} {i : SlotId} (h : l.runningSlot = some i) (x : Slot)
    (hA : l.slotA.isRunning = false) : (l.setSlot i x).slotA = l.slotA := by
  cases i with
  | a => exact absurd ((Lane.runningSlot_eq_some.1 h).1.symm.trans hA) (by decide)
  | b => rfl

/-- A change of the running slot leaves slot B where slot A is the RUNNING one, or B is not RUNNING. -/
theorem Lane.setSlot_slotB_of_running {l : Lane} {i : SlotId} (h : l.runningSlot = some i) (x : Slot)
    (hB : l.slotA.isRunning = true ∨ l.slotB.isRunning = false) : (l.setSlot i x).slotB = l.slotB := by
  obtain ⟨hrun, hb⟩ := Lane.runningSlot_eq_some.1 h
  cases i with
  | a => rfl
  | b =>
    rcases hB with hB | hB
    · exact absurd (hB.symm.trans (hb rfl)) (by decide)
    · exact absurd (hrun.symm.trans hB) (by decide)

theorem Lane.setSlot_setSlot (l : Lane) (i : SlotId) (x y : Slot) :
    (l.setSlot i x).setSlot i y = l.setSlot i y := by
  cases i <;> rfl

/-- A count of a lane whose running slot is known (R154). -/
theorem Lane.count_running {l : Lane} {i : SlotId} {d : Descriptor} {r : Report} {q : Bool} {m : Nat}
    (hi : l.runningSlot = some i) (hs : l.slot i = .running d r q m) (f : Report → Report) :
    l.count f = l.setSlot i (.running d (f r) q m) :=
  (count_counts l f).2 i d r q m hi hs

/-! ### The last block -/

/-- A stream block enters while 4,096 bytes stay free behind it (R171). -/
theorem fitsReserve_iff (q : List Frame) (f : Frame) :
    fitsReserve q f = true ↔ usedBytes q + (f.payload.length + 7) + 4096 ≤ 65536 := by
  unfold fitsReserve freeRoom Frame.bytes
  rw [decide_eq_true_iff]
  simp only [Config.frameOverhead, Config.outboundReserve, Config.outboundSize]
  omega

/-- A block that fits is queued and counted (R142). -/
theorem offerBlock_sent {w : Work} {d : Descriptor} {first : Nat} {vs : List Int}
    (h : usedBytes w.outbound + ((streamBlock w.id d first vs).payload.length + 7) + 4096 ≤ 65536) :
    offerBlock w d first vs =
      (w.enqueue (streamBlock w.id d first vs)).count fun r =>
        { r with blocksSent := min (r.blocksSent + 1) 4294967295 } :=
  if_pos ((fitsReserve_iff _ _).2 h)

/-- A block that does not fit is dropped whole, counted and raised (R142). -/
theorem offerBlock_dropped {w : Work} {d : Descriptor} {first : Nat} {vs : List Int}
    (h : 65536 < usedBytes w.outbound + ((streamBlock w.id d first vs).payload.length + 7) + 4096) :
    offerBlock w d first vs =
      ({ w with streamDrops := min (w.streamDrops + 1) 4294967295 }.count fun r =>
        { r with blocksDropped := min (r.blocksDropped + 1) 4294967295 }).raise .streamDrop :=
  if_neg fun hf => absurd ((fitsReserve_iff _ _).1 hf) (Nat.not_le.2 h)

/-- The fate of the last block of a segment of descriptor d and report r: no block, a block sent, or a
block dropped, with the report, the outbound queue and the stream drops it leaves (R141, R142). -/
structure Work.LastBlock (w : Work) (d : Descriptor) (r r' : Report) (outbound : List Frame)
    (drops : Nat) : Prop where
  absent : w.lane.run.former.block = [] →
    r' = r ∧ outbound = w.outbound ∧ drops = w.streamDrops
  sent : w.lane.run.former.block ≠ [] →
    usedBytes w.outbound +
      ((streamBlock w.id d w.lane.run.former.first w.lane.run.former.block).payload.length + 7) + 4096
        ≤ 65536 →
    r' = { r with blocksSent := min (r.blocksSent + 1) 4294967295 } ∧
      outbound = w.outbound ++ [streamBlock w.id d w.lane.run.former.first w.lane.run.former.block] ∧
      drops = w.streamDrops
  dropped : w.lane.run.former.block ≠ [] →
    65536 < usedBytes w.outbound +
      ((streamBlock w.id d w.lane.run.former.first w.lane.run.former.block).payload.length + 7) + 4096 →
    r' = { r with blocksDropped := min (r.blocksDropped + 1) 4294967295 } ∧
      outbound = w.outbound ∧ drops = min (w.streamDrops + 1) 4294967295

/-- The former's last block offered, when it holds a sample (R141). -/
def Work.offerLast (w : Work) (d : Descriptor) : Work :=
  if w.lane.run.former.block.isEmpty then w
  else offerBlock w d w.lane.run.former.first w.lane.run.former.block

/-- Raising a condition leaves the bits that are not its own. -/
theorem and_of_other_condition {c d : BitVec 8} (latch mask : BitVec 8) (h : c &&& d = 0) :
    (latch ||| (c &&& mask)) &&& d = latch &&& d := by
  rw [BitVec.and_or_distrib_right, BitVec.and_assoc, BitVec.and_comm mask d, ← BitVec.and_assoc, h]
  simp

/-- What the offer of the last block of the running segment leaves: its report and a latch bit other than
SEGMENT_FINISHED may change, and of the lane nothing else. -/
theorem offerLast_running {w : Work} {i : SlotId} {d : Descriptor} {r : Report} {q : Bool} {m : Nat}
    (hi : w.lane.runningSlot = some i) (hs : w.lane.slot i = .running d r q m) :
    ∃ (r' : Report) (latch : BitVec 8),
      (w.offerLast d).lane = { w.lane.setSlot i (.running d r' q m) with latch := latch } ∧
      latch &&& 0x08 = w.lane.latch &&& 0x08 ∧ (w.offerLast d).id = w.id ∧
      w.LastBlock d r r' (w.offerLast d).outbound (w.offerLast d).streamDrops := by
  have same : w.lane.setSlot i (.running d r q m) = w.lane := by
    rw [← hs]; cases i <;> rfl
  unfold Work.offerLast
  by_cases hb : w.lane.run.former.block = []
  · rw [if_pos (by simp [hb])]
    exact ⟨r, w.lane.latch, by rw [same], rfl, rfl, fun _ => ⟨rfl, rfl, rfl⟩, fun h => absurd hb h,
      fun h => absurd hb h⟩
  · rw [if_neg (by simpa using hb)]
    rcases Nat.lt_or_ge 65536 (usedBytes w.outbound + ((streamBlock w.id d w.lane.run.former.first
      w.lane.run.former.block).payload.length + 7) + 4096) with hfull | hroom
    · rw [offerBlock_dropped hfull]
      refine ⟨_, w.lane.latch ||| (Condition.streamDrop.bit &&& w.lane.mask), ?_, ?_, rfl,
        fun h => absurd h hb, fun _ h => absurd h (Nat.not_le.2 hfull), fun _ _ => ⟨rfl, rfl, rfl⟩⟩
      · rw [Work.raise_lane, Work.count_lane, Lane.count_running hi hs]
        cases i <;> rfl
      · exact and_of_other_condition _ _ (by decide)
    · rw [offerBlock_sent hroom]
      refine ⟨_, w.lane.latch, ?_, rfl, rfl,
        fun h => absurd h hb, fun _ _ => ⟨rfl, rfl, rfl⟩, fun _ h => absurd hroom (Nat.not_le.2 h)⟩
      rw [Work.count_lane, Work.enqueue_lane, Lane.count_running hi hs]
      cases i <;> rfl

/-- The end of a RUNNING segment: its last block is offered, then the slot finishes (R151). -/
theorem endSegment_eq {w : Work} {i : SlotId} {d : Descriptor} {r : Report} {q : Bool} {m : Nat}
    (hs : w.lane.slot i = .running d r q m) (reason : EndReason) :
    endSegment w i reason =
      (((w.offerLast d).setLane ((w.offerLast d).lane.setSlot i
        (((w.offerLast d).lane.slot i).finish reason))).setRun
          { (w.offerLast d).lane.run with former := ⟨0, 0, []⟩ }).raise .segmentFinished := by
  unfold endSegment Work.offerLast
  rw [hs]
  simp

/-- The lane after the end of its RUNNING segment, with the fate of the last block (R141, R142, R151). -/
theorem endSegment_running {w : Work} {i : SlotId} {d : Descriptor} {r : Report} {q : Bool} {m : Nat}
    (hi : w.lane.runningSlot = some i) (hs : w.lane.slot i = .running d r q m) (reason : EndReason) :
    ∃ (r' : Report) (latch : BitVec 8),
      (endSegment w i reason).lane =
        { w.lane.setSlot i (.finished d r' reason) with
          latch := latch, run := { w.lane.run with former := ⟨0, 0, []⟩ } } ∧
      latch &&& 0x08 = w.lane.latch &&& 0x08 ||| w.lane.mask &&& 0x08 ∧
      (endSegment w i reason).id = w.id ∧
      w.LastBlock d r r' (endSegment w i reason).outbound (endSegment w i reason).streamDrops := by
  obtain ⟨r', latch, hlane, hlatch, hid, hblock⟩ := offerLast_running hi hs
  rw [endSegment_eq hs]
  refine ⟨r', latch ||| (0x08 &&& w.lane.mask), ?_, ?_, hid, hblock⟩
  · simp only [Work.raise_lane, Work.setRun_lane, Work.setLane_lane, hlane]
    cases i <;> rfl
  · rw [BitVec.and_or_distrib_right, hlatch, BitVec.and_comm 0x08 w.lane.mask, BitVec.and_assoc,
      BitVec.and_self]

/-! ### The stop effects -/

/-- Without a RUNNING segment the stop effects are the discards alone (R5). -/
theorem stopEffects_noSegment {w : Work} (h : w.lane.runningSlot = none) :
    stopEffects w = w.setLane w.lane.discard := by
  simp only [stopEffects, h]

/-- The stop effects on a lane with a RUNNING segment (R5, R156). -/
theorem stopEffects_segment {w : Work} {i : SlotId} {d : Descriptor} {r : Report} {q : Bool} {m : Nat}
    (hi : w.lane.runningSlot = some i) (hs : w.lane.slot i = .running d r q m) :
    ∃ (r' : Report) (latch : BitVec 8),
      (stopEffects w).lane =
        { (w.lane.setSlot i (.finished d r' .laneStopped)).discard with latch := latch } ∧
      latch &&& 0x08 = w.lane.latch &&& 0x08 ||| w.lane.mask &&& 0x08 ∧
      (stopEffects w).id = w.id ∧
      w.LastBlock d r r' (stopEffects w).outbound (stopEffects w).streamDrops := by
  obtain ⟨r', latch, hlane, hlatch, hid, hblock⟩ := endSegment_running hi hs .laneStopped
  simp only [stopEffects, hi]
  refine ⟨r', latch, ?_, hlatch, hid, hblock⟩
  rw [Work.setLane_lane, hlane]
  rfl

/-- What the stop effects do to the lane whatever its slots hold: the slots, the load order and the latch
apart, they are the discards (R5, R62, R98). -/
theorem stopEffects_lane (w : Work) :
    ∃ (a b : Slot) (latch : BitVec 8),
      (stopEffects w).lane = { w.lane.discard with slotA := a, slotB := b, latch := latch } ∧
      (stopEffects w).id = w.id := by
  cases hi : w.lane.runningSlot with
  | none =>
    rw [stopEffects_noSegment hi]
    exact ⟨_, _, _, rfl, rfl⟩
  | some i =>
    obtain ⟨d, r, q, m, hs⟩ := Lane.exists_of_runningSlot hi
    obtain ⟨r', latch, hlane, -, hid, -⟩ := stopEffects_segment hi hs
    rw [hlane]
    cases i <;> exact ⟨_, _, _, rfl, hid⟩

/-- The stop effects leave slot A where it is not RUNNING (R5). -/
theorem stopEffects_slotA {w : Work} (hA : w.lane.slotA.isRunning = false) :
    (stopEffects w).lane.slotA = w.lane.slotA := by
  cases hi : w.lane.runningSlot with
  | none => rw [stopEffects_noSegment hi]; rfl
  | some i =>
    obtain ⟨d, r, q, m, hs⟩ := Lane.exists_of_runningSlot hi
    obtain ⟨r', latch, hlane, -⟩ := stopEffects_segment hi hs
    rw [hlane]
    exact Lane.setSlot_slotA_of_running hi _ hA

/-- The stop effects leave slot B where slot A is the RUNNING one, or B is not RUNNING (R5). -/
theorem stopEffects_slotB {w : Work}
    (hB : w.lane.slotA.isRunning = true ∨ w.lane.slotB.isRunning = false) :
    (stopEffects w).lane.slotB = w.lane.slotB := by
  cases hi : w.lane.runningSlot with
  | none => rw [stopEffects_noSegment hi]; rfl
  | some i =>
    obtain ⟨d, r, q, m, hs⟩ := Lane.exists_of_runningSlot hi
    obtain ⟨r', latch, hlane, -⟩ := stopEffects_segment hi hs
    rw [hlane]
    exact Lane.setSlot_slotB_of_running hi _ hB

/-! ### The two commands -/

/-- A lane command that is answered, with a body that keeps its work's id: what it changes beside the
reply stands in its lane. -/
theorem onlyLane_answered {l : LaneId} (s : State) {w : Work} (h : w.id = l) (k : Byte) (c : Command)
    (st : Byte) (data : List Byte) :
    OnlyLane l (s.answered k c st data) ((s.putWork w).answered k c st data) := by
  obtain ⟨hlanes, -⟩ := onlyLane_putWork s h
  exact ⟨hlanes, rfl, rfl, rfl, rfl, rfl, rfl, rfl, rfl, rfl, rfl, rfl, rfl, rfl⟩

theorem State.lane_answered {l : LaneId} (s : State) {w : Work} (h : w.id = l) (k : Byte) (c : Command)
    (st : Byte) (data : List Byte) : ((s.putWork w).answered k c st data).lanes[l] = w.lane :=
  State.lane_putWork s h

/-- The lane with both slots EMPTY and its latch cleared (R6). -/
def Lane.cleared (l : Lane) : Lane :=
  { l with slotA := .empty, slotB := .empty, loadOrder := [], latch := 0 }

theorem resetLaneEffects_running {w : Work} (h : w.lane.state = .running) :
    resetLaneEffects w = (stopEffects w).setLane (stopEffects w).lane.cleared := by
  simp only [resetLaneEffects, if_pos h, Lane.cleared]

theorem resetLaneEffects_notRunning {w : Work} (h : w.lane.state ≠ .running) :
    resetLaneEffects w = w.setLane w.lane.cleared := by
  simp only [resetLaneEffects, if_neg h, Lane.cleared]

/-- RESET_LANE is taken in every lane state (R6). -/
theorem exec_resetLane {c : Command} {s : State} {l : LaneId} (ht : s.Takes 0x14 c)
    (hl : c.lane.toNat = l.val) (hp : c.payload = []) :
    exec (.resetLane c) s =
      .next ((s.putWork (resetLaneEffects (s.work l))).answered 0x14 c 0 []) :=
  congrArg Host.Outcome.next (takeLane_work .ok ht hl (noPayload_of_nil hp) rfl)

end Sys2Proof.Machine

namespace Sys2Proof.Settled

open Sys2Proof.Machine

/-- Settles O16: the discards of `stopEffects_lane`, and the block's fate of `stopEffects_segment`. -/
theorem stopLaneEffects : Obligations.StopLaneEffects := by
  intro c s l ht hl hp hrun
  have hexec : exec (.stopLane c) s =
      .next ((s.putWork (stopEffects (s.work l))).answered 0x13 c 0 []) :=
    congrArg Host.Outcome.next (takeLane_work .ok ht hl (noPayload_of_nil hp) (if_pos hrun))
  obtain ⟨a, b, latch, hlane, hid⟩ := stopEffects_lane (s.work l)
  have hid' : (stopEffects (s.work l)).id = l := hid
  refine ⟨_, hexec, onlyLane_answered s hid' _ _ _ _, ?_⟩
  rw [State.lane_answered s hid']
  refine ⟨by rw [hlane]; rfl, by rw [hlane]; exact .refl _, by rw [hlane]; rfl, by rw [hlane]; rfl,
    by rw [hlane]; rfl, by rw [hlane]; rfl, by rw [hlane]; rfl, by rw [hlane]; rfl,
    stopEffects_slotA (w := s.work l), stopEffects_slotB (w := s.work l), fun hi => ?_,
    fun i d r q m hi hs => ?_⟩
  · rw [stopEffects_noSegment hi]
    rfl
  · obtain ⟨r', latch', hlane', hlatch, -, hblock⟩ := stopEffects_segment (w := s.work l) hi hs
    have hslot : (stopEffects (s.work l)).lane.slot i = .finished d r' .laneStopped := by
      rw [hlane']; cases i <;> rfl
    refine ⟨by rw [hlane']; exact hlatch, fun hb => ?_, fun hb => ⟨fun hroom => ?_, fun hfull => ?_⟩⟩
    · obtain ⟨rfl, ho, hd⟩ := hblock.absent hb
      exact ⟨hslot, ho, hd⟩
    · obtain ⟨rfl, ho, hd⟩ := hblock.sent hb hroom
      exact ⟨hslot, ho, hd⟩
    · obtain ⟨rfl, ho, hd⟩ := hblock.dropped hb hfull
      exact ⟨hslot, ho, hd⟩

/-- Settles O17, by whether the lane is RUNNING: the stop effects come first, or nothing does. -/
theorem resetLaneEffects : Obligations.ResetLaneEffects := by
  intro c s l ht hl hp
  have hexec := exec_resetLane ht hl hp
  by_cases hrun : s.lanes[l].state = .running
  · obtain ⟨a, b, latch, hlane, hid⟩ := stopEffects_lane (s.work l)
    have hid' : ((stopEffects (s.work l)).setLane (stopEffects (s.work l)).lane.cleared).id = l := hid
    rw [resetLaneEffects_running hrun] at hexec
    refine ⟨_, hexec, onlyLane_answered s hid' _ _ _ _, ?_⟩
    rw [State.lane_answered s hid', Work.setLane_lane, hlane, if_pos hrun]
    refine ⟨.refl _, rfl, rfl, rfl, rfl, rfl, rfl, rfl, fun _ => ⟨rfl, rfl, rfl, rfl, fun hi => ?_,
      fun i d r q m f hi hs hf => ?_⟩, fun h => absurd hrun h⟩
    · rw [stopEffects_noSegment hi]
      exact ⟨rfl, rfl⟩
    · obtain ⟨r', latch', -, -, -, hblock⟩ := stopEffects_segment (w := s.work l) hi hs
      subst hf
      exact ⟨fun hb => (hblock.absent hb).2,
        fun hb => ⟨fun hroom => (hblock.sent hb hroom).2, fun hfull => (hblock.dropped hb hfull).2⟩⟩
  · rw [resetLaneEffects_notRunning hrun] at hexec
    have hid : ((s.work l).setLane (s.work l).lane.cleared).id = l := rfl
    refine ⟨_, hexec, onlyLane_answered s hid _ _ _ _, ?_⟩
    rw [State.lane_answered s hid, if_neg hrun]
    exact ⟨.refl _, rfl, rfl, rfl, rfl, rfl, rfl, rfl, fun h => absurd h hrun,
      fun _ => ⟨rfl, rfl, rfl, rfl⟩⟩

end Sys2Proof.Settled

/-! # Changes of the signal state

The instant that a cause completes, the records that departures and lost outputs leave, and what the 64th
instant of a run does. Settles O30. -/

namespace Sys2Proof.Machine

/-! ### The instant that a cause completes -/

/-- Lane l as an event hands it to the instant it completes: the pending word, the held edges and the
generator's counts as given, everything else as it stands. -/
def State.instantWork (s : State) (l : LaneId) (pendingA : Option PendingWord) (edges : List EdgeKind)
    (g : Generator) : Work :=
  { s.work l with
    lane := { s.lanes[l] with
      front := { s.lanes[l].front with pendingA, heldEdges := edges }
      run := { s.lanes[l].run with generator := g } } }

/-- A cause's row is its step. -/
theorem exec_causeRow (c : Cause) (s : State) : exec (causeRow c) s = .next (causeStep s c) := by
  cases c <;> rfl

/-- A named event that comes about inside its cause's step is that step (assumption 4). -/
theorem namedEvent_of_mem {e : StepEvent} {c : Cause} {s : State} (hs : s.resetHeld = false)
    (he : e ∈ causeEvents s c) : namedEvent e c s = causeStep s c := by
  simp [namedEvent, hs, he]

/-- The cause's step completes an instant of quality q with these edges, from the work w. -/
structure State.CompletesFrom (s : State) (l : LaneId) (c : Cause) (q : Quality) (edges : List EdgeKind)
    (x : Int) (h : Option Halves) (w : Work) : Prop where
  high : s.resetHeld = false
  step : causeStep s c = s.putWork (completeInstant x h q edges w)
  events : causeEvents s c = (completeInstant x h q edges w).trace
  work : ∃ pendingA held g, w = s.instantWork l pendingA held g

/-- A word that completes an instant. -/
theorem completesFrom_word {s : State} {l : LaneId} {b : BitVec 32} {q : Quality}
    {edges held : List EdgeKind} {pendingA : Option PendingWord} {x : Int} {h : Option Halves}
    (hs : s.resetHeld = false) (hb : (sensorFields b).lane = l)
    (hw : takeWord (sensorFields b) (s.work l) = completeInstant x h q edges
      (s.instantWork l pendingA held s.lanes[l].run.generator)) :
    s.CompletesFrom l (.word b) q edges x h
      (s.instantWork l pendingA held s.lanes[l].run.generator) := by
  subst hb
  exact ⟨hs, (laneEvent_high hs _ _).trans (congrArg s.putWork hw), congrArg Work.trace hw, _, _, _, rfl⟩

/-- A cause that `completes` an instant completes it from the lane as it stands but for the pending word,
the held edges and the generator's counts. -/
theorem exists_completesFrom {s : State} {l : LaneId} {c : Cause} {q : Quality} {edges : List EdgeKind}
    (h : s.completes l c = some (q, edges)) : ∃ x halves w, s.CompletesFrom l c q edges x halves w := by
  unfold State.completes at h
  cases c with
  | word b =>
    dsimp only at h
    split at h
    case isFalse => cases h
    case isTrue hl =>
      obtain ⟨hl, hb⟩ := hl
      split at h
      case isTrue hr =>
        split at h
        case h_1 a hhalf ha =>
          obtain ⟨rfl, rfl⟩ := Prod.mk.inj (Option.some.inj h)
          rw [← Quality.worse_eq]
          exact ⟨_, _, _, completesFrom_word hl.1 hb (takeWord_completes_dual hl hr hhalf ha)⟩
        case h_2 => cases h
      case isFalse hr =>
        obtain ⟨rfl, rfl⟩ := Prod.mk.inj (Option.some.inj h)
        exact ⟨_, _, _, completesFrom_word hl.1 hb (takeWord_completes_single _ hl hr)⟩
  | generator m =>
    dsimp only at h
    split at h
    case isFalse => cases h
    case isTrue hg =>
      obtain ⟨hs, hrun, hsrc, rfl⟩ := hg
      obtain ⟨rfl, rfl⟩ := Prod.mk.inj (Option.some.inj h)
      rw [← Generator.edges_eq]
      have hinstant := generateInstant_eq (w := s.work m) hrun hsrc rfl rfl rfl
      exact ⟨_, _, _, hs, (laneEvent_high hs _ _).trans (congrArg s.putWork hinstant),
        congrArg Work.trace hinstant, _, _, _, rfl⟩
  | writeBack => cases h

/-! ### The records that departures leave -/

/-- From w to w' the run keeps all but the former and the dither register. -/
def Work.OnlyFormed (w w' : Work) : Prop :=
  w'.lane.run =
    { w.lane.run with former := w'.lane.run.former, dither := w'.lane.run.dither }

theorem Work.OnlyFormed.refl (w : Work) : w.OnlyFormed w := rfl

theorem Work.OnlyFormed.trans {a b c : Work} (h : a.OnlyFormed b) (k : b.OnlyFormed c) :
    a.OnlyFormed c := by
  unfold Work.OnlyFormed at *
  exact k.trans (by rw [h])

theorem Work.OnlyFormed.of_run {w w' : Work} (h : w'.lane.run = w.lane.run) : w.OnlyFormed w' := by
  unfold Work.OnlyFormed
  rw [h]

theorem offerBlock_run (w : Work) (d : Descriptor) (first : Nat) (vs : List Int) :
    (offerBlock w d first vs).lane.run = w.lane.run := by
  unfold offerBlock
  dsimp only
  split <;> simp

theorem onlyFormed_count (w : Work) (f : Report → Report) : w.OnlyFormed (w.count f) :=
  .of_run (by simp)

theorem onlyFormed_ite {a x y : Work} {c : Prop} [Decidable c] (hx : a.OnlyFormed x)
    (hy : a.OnlyFormed y) : a.OnlyFormed (if c then x else y) := by
  split <;> assumption

theorem outputSample_onlyFormed (w : Work) (d : Descriptor) (e : Entry) (y : Int) :
    w.OnlyFormed (outputSample w d e y) := by
  have former (v : Work) (f : Former) (s : BitVec 24) :
      v.OnlyFormed (v.setRun { v.lane.run with former := f, dither := s }) := rfl
  unfold outputSample
  exact onlyFormed_ite
    ((((former w _ _).trans (onlyFormed_count _ _)).trans (former _ _ _)).trans
      (.of_run (offerBlock_run _ _ _ _)))
    ((former w _ _).trans (onlyFormed_count _ _))

theorem endSegment_onlyFormed (w : Work) (i : SlotId) (reason : EndReason) :
    w.OnlyFormed (endSegment w i reason) := by
  unfold endSegment
  split
  · dsimp only
    split <;> simp [Work.OnlyFormed, offerBlock_run]
  · exact .refl w

theorem startSegment_onlyFormed (w : Work) (i : SlotId) (e : Entry) :
    w.OnlyFormed (startSegment w i e) := by
  unfold startSegment
  split
  · simp [Work.OnlyFormed]
  · exact .refl w

theorem endTest_onlyFormed (w : Work) (e : Entry) : w.OnlyFormed (endTest w e) := by
  unfold endTest
  split
  · exact .refl w
  · split
    · split
      · exact endSegment_onlyFormed _ _ _
      · split
        · split
          · exact (endSegment_onlyFormed w _ _).trans (.of_run rfl)
          · exact .of_run (by simp)
        · exact .refl w
    · exact .refl w

theorem startTest_onlyFormed (w : Work) (e : Entry) : w.OnlyFormed (startTest w e) := by
  unfold startTest
  split
  · exact startSegment_onlyFormed _ _ _
  · exact .refl w

theorem outputStep_onlyFormed (w : Work) (e : Entry) (y : Int) : w.OnlyFormed (outputStep w e y) := by
  unfold outputStep
  split
  · exact outputSample_onlyFormed _ _ _ _
  · exact .refl w

/-- The judgement of a departure changes of the run the former and the dither register alone. -/
theorem judge_onlyFormed (w : Work) (e : Entry) (y : Int) : w.OnlyFormed (judge w e y) :=
  ((endTest_onlyFormed w e).trans (startTest_onlyFormed _ e)).trans (outputStep_onlyFormed _ e y)

theorem Work.OnlyFormed.queue {w w' : Work} (h : w.OnlyFormed w') :
    w'.lane.run.queue = w.lane.run.queue := by
  rw [h]

theorem offerReport_run (w : Work) (g : BitVec 16) (r : DefectRecord) :
    (offerReport w g r).lane.run = w.lane.run := by
  unfold offerReport
  dsimp only
  split <;> simp

/-- A retirement takes the record out of the queue (R100). -/
theorem retire_queue (w : Work) (d : Option Descriptor) (r : DefectRecord) :
    (retire w d r).lane.run.queue = w.lane.run.queue.remove r.id := by
  unfold retire
  dsimp only
  split
  · split <;> simp [offerReport_run]
  · simp

/-- From w to w' no record has come or changed in the lane's queue. -/
def Work.NoNewRecords (w w' : Work) : Prop :=
  ∀ r ∈ w'.lane.run.queue.records, r ∈ w.lane.run.queue.records

theorem Work.NoNewRecords.refl (w : Work) : w.NoNewRecords w := fun _ h => h

theorem Work.NoNewRecords.trans {a b c : Work} (h : a.NoNewRecords b) (k : b.NoNewRecords c) :
    a.NoNewRecords c := fun r hr => h r (k r hr)

theorem Work.NoNewRecords.of_queue {w w' : Work} (h : w'.lane.run.queue = w.lane.run.queue) :
    w.NoNewRecords w' := fun r hr => by rwa [h] at hr

theorem retireAt_noNewRecords (w : Work) (e : Entry) (r : Option DefectRecord) :
    w.NoNewRecords (retireAt w e r) := by
  unfold retireAt
  split
  · split
    · intro o ho
      rw [retire_queue] at ho
      exact List.mem_of_mem_filter ho
    · exact .refl w
  · exact .refl w

theorem humDepart_run (w : Work) (e : Entry) : (humDepart w e).lane.run = w.lane.run := by
  simp [humDepart, teachTemplates, countBoundaries]

theorem hissDepart_queue (w : Work) (xd : Int) :
    (hissDepart w xd).lane.run.queue = w.lane.run.queue := by
  simp [hissDepart]

/-- A departure may retire a record and leaves the others as they are (R53, R56). -/
theorem depart_noNewRecords (w : Work) : w.NoNewRecords (depart w) := by
  unfold depart
  split
  · exact .refl w
  · rename_i e rest _
    unfold departStages
    refine Work.NoNewRecords.trans (.of_queue ?_) (retireAt_noNewRecords _ _ _)
    rw [(judge_onlyFormed _ _ _).queue, hissDepart_queue, humDepart_run]
    rfl

theorem departUpTo_noNewRecords (n : Nat) (w : Work) : w.NoNewRecords (departUpTo n w) := by
  induction n generalizing w with
  | zero => exact .refl w
  | succ n ih =>
    unfold departUpTo
    split
    · exact (depart_noNewRecords w).trans (ih _)
    · exact .refl w

theorem departureTest_noNewRecords (w : Work) : w.NoNewRecords (departureTest w) :=
  departUpTo_noNewRecords _ w

/-! ### No OPEN record -/

/-- No record of the lane is OPEN. -/
def Work.NoneOpen (w : Work) : Prop := ∀ r ∈ w.lane.run.queue.records, r.state ≠ .opened

theorem Work.NoneOpen.of_noNewRecords {w w' : Work} (h : w.NoneOpen) (k : w.NoNewRecords w') :
    w'.NoneOpen := fun r hr => h r (k r hr)

theorem Work.NoneOpen.of_queue {w w' : Work} (h : w.NoneOpen)
    (k : w'.lane.run.queue = w.lane.run.queue) : w'.NoneOpen :=
  h.of_noNewRecords (.of_queue k)

/-- What an update leaves: the new record, or a record of another id. -/
theorem mem_update {q : DefectQueue} {r o : DefectRecord} (h : o ∈ (q.update r).records) :
    o = r ∨ o ∈ q.records ∧ o.id ≠ r.id := by
  obtain ⟨p, hp, rfl⟩ := List.mem_map.1 h
  by_cases hid : p.id = r.id
  · exact .inl (if_pos hid)
  · exact .inr ⟨by rwa [if_neg hid], by rwa [if_neg hid]⟩

/-- The queue of an abandoned record: the record has the state ABANDONED (R58). -/
theorem abandon_queue (run : Run) (r : DefectRecord) :
    (run.abandon r).queue = run.queue.update { r with state := .abandoned } := by
  unfold Run.abandon
  split <;> rfl

theorem makeRoomOnce_noneOpen {w : Work} (h : w.NoneOpen) : (makeRoomOnce w).NoneOpen := by
  unfold makeRoomOnce
  split
  · rename_i r _
    refine Work.NoneOpen.of_noNewRecords (fun o ho => ?_) (depart_noNewRecords _)
    simp only [Work.raise_lane, Lane.raise_run, Work.setRun_lane, abandon_queue] at ho
    rcases mem_update ho with rfl | ⟨hmem, -⟩
    · exact RecordState.noConfusion
    · exact h o hmem
  · exact h.of_noNewRecords (depart_noNewRecords w)

theorem makeRoom_noneOpen (n : Nat) {w : Work} (h : w.NoneOpen) : (makeRoom n w).NoneOpen := by
  induction n generalizing w with
  | zero => exact h
  | succ n ih =>
    unfold makeRoom
    split
    · exact h
    · exact ih (makeRoomOnce_noneOpen h)

theorem placeEntry_queue (w : Work) (e : Entry) :
    (placeEntry w e).lane.run.queue = w.lane.run.queue := by
  simp [placeEntry]

/-- A LOST output is not examined, and opens no record (R49, R83). -/
theorem entryEvent_lost_noneOpen {w : Work} {o : Output} (ho : o.lost = true) (h : w.NoneOpen) :
    (entryEvent w o).NoneOpen := by
  unfold entryEvent
  dsimp only
  refine Work.NoneOpen.of_noNewRecords ?_ (departureTest_noNewRecords _)
  rw [examine, if_pos (show (newEntry _ o _ _).lost = true from ho)]
  have hindex : (indexOutput w o).NoneOpen := h.of_queue (by simp [indexOutput, ho])
  exact (makeRoom_noneOpen _ hindex).of_queue (placeEntry_queue _ _)

/-- While the signal is lost the outputs of an instant open no record. -/
theorem produceUpTo_lost_noneOpen (p q : PrevInstant) (n : Nat) {w : Work}
    (hs : w.lane.front.signal = .lost) (h : w.NoneOpen) : (produceUpTo p q n w).NoneOpen := by
  induction n generalizing w with
  | zero => exact h
  | succ n ih =>
    unfold produceUpTo
    split
    · refine ih ?_ ?_
      · have hkeep := congrArg FrontEnd.signal (entryEvent_keeps
          (w.setRun { w.lane.run with resampler := w.lane.run.resampler.advance })
          (outputAt w.lane p q)).2.front
        exact hkeep.trans hs
      · exact entryEvent_lost_noneOpen (by simp [outputAt, hs]) h
    · exact h

theorem resampleInstant_lost_noneOpen (next : PrevInstant) (b : Bool) {w : Work}
    (hs : w.lane.front.signal = .lost) (h : w.NoneOpen) : (resampleInstant next b w).NoneOpen := by
  cases hp : w.lane.run.resampler.prev with
  | none => rw [resampleInstant_first hp]; exact h
  | some p =>
    rw [resampleInstant_later hp]
    exact produceUpTo_lost_noneOpen p next 21 (w := w.withSplice next.index b) hs h

/-! ### The loss and the recovery -/

/-- A watch that loses the signal is the loss on the front end of R16's table. -/
theorem watchSignal_lost {q : Quality} {w : Work} (ho : w.lane.front.signal = .ok)
    (hn : (signalAfter w.lane.front q).1 = .lost) :
    watchSignal q w = onSignalLost (w.setFront (w.lane.front.watch q)) := by
  have hw : (w.lane.front.watch q).signal = .lost := by rw [FrontEnd.watch_eq]; exact hn
  simp [watchSignal, ho, hw]

/-- A watch that recovers the signal is the recovery on the front end of R16's table. -/
theorem watchSignal_recovered {q : Quality} {w : Work} (ho : w.lane.front.signal = .lost)
    (hn : (signalAfter w.lane.front q).1 = .ok) :
    watchSignal q w = onSignalRecovered (w.setFront (w.lane.front.watch q)) := by
  have hw : (w.lane.front.watch q).signal = .ok := by rw [FrontEnd.watch_eq]; exact hn
  simp [watchSignal, ho, hw]

/-- A loss raises SIGNAL_STATE and notes the event before anything else. -/
theorem onSignalLost_raises (w : Work) :
    ((w.raise .signalState).note .signalLost).Keeps (onSignalLost w) := by
  unfold onSignalLost
  dsimp only
  split
  · exact ((closeAtLoss_keeps _).trans (departureTest_keeps _)).1
  · exact .refl _

/-- A recovery raises SIGNAL_STATE and notes the event before anything else. -/
theorem onSignalRecovered_raises (w : Work) :
    ((w.raise .signalState).note .signalRecovered).Keeps (onSignalRecovered w) := keeps_setRun _ _

/-- After the signal watch the rest of an instant keeps configuration, events, latch and frames. -/
theorem completeInstant_after_watch (x : Int) (h : Option Halves) (q : Quality) (es : List EdgeKind)
    (w : Work) :
    (watchSignal q (w.setFront
      { w.lane.front with nextIndex := w.lane.front.nextIndex + 1 })).Keeps
        (completeInstant x h q es w) := by
  rw [completeInstant_eq x h q es rfl]
  exact ((trackInstant_keeps _ _ _).trans (restep_keeps _ _)).trans (resampleInstant_keeps _ _ _)

/-- What stands in the latch beside a raised SIGNAL_STATE stays there (R173). -/
theorem latch_of_raised {w w' : Work} {e : StepEvent}
    (h : ((w.raise .signalState).note e).Keeps w') (hm : w.lane.mask &&& 0x02 ≠ 0) :
    w'.lane.latch &&& 0x02 ≠ 0 := by
  have bit : ∀ x : BitVec 8, x &&& 0x02 ≠ 0 ↔ x.getLsbD 1 = true := by decide +kernel
  have hl := congrArg (BitVec.getLsbD · 1) h.latch
  rw [bit] at hm ⊢
  simpa [Condition.bit, hm] using hl

theorem eq_of_mem_of_length_le_one {α : Type} {l : List α} {a b : α} (h : l.length ≤ 1) (ha : a ∈ l)
    (hb : b ∈ l) : a = b := by
  match l, h with
  | [x], _ => rw [List.mem_singleton.1 ha, List.mem_singleton.1 hb]

/-- An instant that loses the signal has the event in its trace, and the condition in a latch whose mask
holds it (R16, R173). -/
theorem completeInstant_lost_raises {q : Quality} {w : Work} (x : Int) (h : Option Halves)
    (es : List EdgeKind) (ho : w.lane.front.signal = .ok)
    (hn : (signalAfter w.lane.front q).1 = .lost) :
    .signalLost ∈ (completeInstant x h q es w).trace ∧
      (w.lane.mask &&& 0x02 ≠ 0 → (completeInstant x h q es w).lane.latch &&& 0x02 ≠ 0) := by
  have hafter := completeInstant_after_watch x h q es w
  rw [watchSignal_lost (by exact ho) (by exact hn)] at hafter
  have hkeep := (onSignalLost_raises _).trans hafter
  exact ⟨hkeep.trace _ (List.mem_cons_self ..), fun hm => latch_of_raised hkeep hm⟩

/-- An instant that recovers the signal has the event in its trace, and the condition in a latch whose
mask holds it (R16, R173). -/
theorem completeInstant_recovered_raises {q : Quality} {w : Work} (x : Int) (h : Option Halves)
    (es : List EdgeKind) (ho : w.lane.front.signal = .lost)
    (hn : (signalAfter w.lane.front q).1 = .ok) :
    .signalRecovered ∈ (completeInstant x h q es w).trace ∧
      (w.lane.mask &&& 0x02 ≠ 0 → (completeInstant x h q es w).lane.latch &&& 0x02 ≠ 0) := by
  have hafter := completeInstant_after_watch x h q es w
  rw [watchSignal_recovered (by exact ho) (by exact hn)] at hafter
  have hkeep := (onSignalRecovered_raises _).trans hafter
  exact ⟨hkeep.trace _ (List.mem_cons_self ..), fun hm => latch_of_raised hkeep hm⟩

/-- The open record closed, no OPEN record is left where there was one at most (R88, R97). -/
theorem close_noneOpen {w : Work} {r : DefectRecord}
    (h : (w.lane.run.queue.records.filter fun r => decide (r.state = .opened)).length ≤ 1)
    (hr : w.lane.run.queue.openRecord = some r) :
    (w.setRun (w.lane.run.close r .long)).NoneOpen := by
  have hopen : r.state = .opened := by simpa using List.find?_some hr
  have hmem : r ∈ w.lane.run.queue.records := List.mem_of_find?_eq_some hr
  intro o ho
  rcases mem_update ho with rfl | ⟨hmo, hid⟩
  · exact RecordState.noConfusion
  · intro hoo
    have ho' : o ∈ w.lane.run.queue.records.filter fun r => decide (r.state = .opened) := by
      simp [hmo, hoo]
    have hr' : r ∈ w.lane.run.queue.records.filter fun r => decide (r.state = .opened) := by
      simp [hmem, hopen]
    rw [eq_of_mem_of_length_le_one h ho' hr'] at hid
    exact hid rfl

/-- After a loss of signal no record is OPEN where there was one at most (R88). -/
theorem onSignalLost_noneOpen {w : Work}
    (h : (w.lane.run.queue.records.filter fun r => decide (r.state = .opened)).length ≤ 1) :
    (onSignalLost w).NoneOpen := by
  cases hr : w.lane.run.queue.openRecord with
  | none =>
    rw [onSignalLost_none hr]
    simpa [Work.NoneOpen, DefectQueue.openRecord, List.find?_eq_none] using hr
  | some r =>
    rw [onSignalLost_some hr]
    have hclosed := close_noneOpen (w := (w.raise .signalState).note .signalLost) h hr
    exact hclosed.of_noNewRecords (departureTest_noNewRecords _)

/-- An instant that loses the signal leaves no OPEN record (R16, R88). -/
theorem completeInstant_lost_noneOpen {q : Quality} {w : Work} (x : Int) (hv : Option Halves)
    (es : List EdgeKind) (ho : w.lane.front.signal = .ok)
    (hn : (signalAfter w.lane.front q).1 = .lost)
    (h : (w.lane.run.queue.records.filter fun r => decide (r.state = .opened)).length ≤ 1) :
    (completeInstant x hv q es w).NoneOpen := by
  rw [completeInstant_eq x hv q es rfl]
  have hsignal := watchSignal_signal q
    (w.setFront { w.lane.front with nextIndex := w.lane.front.nextIndex + 1 })
  have hnone : (watchSignal q
      (w.setFront { w.lane.front with nextIndex := w.lane.front.nextIndex + 1 })).NoneOpen := by
    rw [watchSignal_lost (by exact ho) (by exact hn)]
    exact onSignalLost_noneOpen h
  generalize watchSignal q _ = v at hsignal hnone ⊢
  have ht := trackStage_onlyTracked w.lane.front.nextIndex (es.count .perf) v.lane.run.tracker.e v
  refine resampleInstant_lost_noneOpen _ _ ?_ (hnone.of_queue (by rw [ht.run]))
  rw [ht.front, hsignal]
  exact hn

/-! ### The 64th instant -/

theorem signalAfter_loss {f : FrontEnd} (hs : f.signal = .ok) (hd : f.darkRun = 63) :
    signalAfter f .dark = (.lost, 0, 0) := by
  simp [signalAfter, hs, hd]

theorem signalAfter_recovery {f : FrontEnd} {q : Quality} (hs : f.signal = .lost)
    (hr : f.recoveryRun = 63) (hq : q ≠ .dark) : signalAfter f q = (.ok, 0, 0) := by
  simp [signalAfter, hs, hr, hq]

/-- The watch of a 64th DARK instant without an OPEN record: the condition and the event alone (R16). -/
theorem watchSignal_loss_none {s : State} {l : LaneId} {f : FrontEnd} (hs : f.signal = .ok)
    (hd : f.darkRun = 63) (hn : ∀ r ∈ s.lanes[l].run.queue.records, r.state ≠ .opened) :
    watchSignal .dark ((s.work l).setFront f) =
      { s.work l with
        lane := { s.lanes[l] with
          latch := s.lanes[l].latch ||| (0x02 &&& s.lanes[l].mask)
          front := { f with signal := .lost, darkRun := 0, recoveryRun := 0 } }
        trace := [.signalLost] } := by
  have hafter := signalAfter_loss hs hd
  have hopen : s.lanes[l].run.queue.openRecord = none := openRecord_eq_none hn
  rw [watchSignal_lost (w := (s.work l).setFront f) hs (congrArg Prod.fst hafter),
    onSignalLost_none hopen]
  simp only [Work.setFront_lane, FrontEnd.watch_eq, hafter]
  rfl

/-- The watch of a 64th DARK instant closes the OPEN record as LONG, and the departure test follows
(R88). -/
theorem watchSignal_loss_some {s : State} {l : LaneId} {f : FrontEnd} (hs : f.signal = .ok)
    (hd : f.darkRun = 63) {pre post : List DefectRecord} {r : DefectRecord}
    (hq : s.lanes[l].run.queue.records = pre ++ r :: post) (hr : r.state = .opened)
    (hu : ∀ o ∈ pre ++ post, o.state ≠ .opened ∧ o.id ≠ r.id) :
    watchSignal .dark ((s.work l).setFront f) =
      departureTest
        { s.work l with
          lane := { s.lanes[l] with
            latch := s.lanes[l].latch ||| (0x02 &&& s.lanes[l].mask)
            front := { f with signal := .lost, darkRun := 0, recoveryRun := 0 }
            run := { s.lanes[l].run with
              queue := { s.lanes[l].run.queue with records := pre ++ { r with state := .long } :: post }
              detector := { s.lanes[l].run.detector with
                lastEnd := some r.stop, quietA := 0, quietB := 0 } } }
          trace := [.signalLost] } := by
  have hafter := signalAfter_loss hs hd
  have hopen : s.lanes[l].run.queue.openRecord = some r :=
    openRecord_eq_some hq (fun o ho => (hu o (List.mem_append_left _ ho)).1) hr
  have hupdate : s.lanes[l].run.queue.update { r with state := .long } =
      { s.lanes[l].run.queue with records := pre ++ { r with state := .long } :: post } :=
    update_eq hq (fun o ho => (hu o ho).2) rfl
  rw [watchSignal_lost (w := (s.work l).setFront f) hs (congrArg Prod.fst hafter),
    onSignalLost_some hopen]
  simp only [Work.setFront_lane, FrontEnd.watch_eq, hafter, Run.close, State.work_lane, hupdate]
  rfl

/-- The watch of the 64th other instant empties the detector's history and sets its settle count (R88). -/
theorem watchSignal_recovery {w : Work} {q : Quality} (hs : w.lane.front.signal = .lost)
    (hr : w.lane.front.recoveryRun = 63) (hq : q ≠ .dark) :
    (watchSignal q w).lane =
      { w.lane with
        latch := w.lane.latch ||| (0x02 &&& w.lane.mask)
        front := { w.lane.front with signal := .ok, darkRun := 0, recoveryRun := 0 }
        run := { w.lane.run with
          detector := { w.lane.run.detector with history := [], settle := 64 } } } := by
  have hafter := signalAfter_recovery hs hr hq
  rw [watchSignal_recovered hs (congrArg Prod.fst hafter), FrontEnd.watch_eq, hafter]
  rfl

/-- Without an output an instant leaves the detector as the signal watch has left it (R39). -/
theorem completeInstant_detector_of_noOutput (x : Int) (h : Option Halves) (q : Quality)
    (es : List EdgeKind) {w : Work}
    (hn : ∀ p ∈ w.lane.run.resampler.prev, rpIndex w.lane.run.resampler.rp ≠ p.index) :
    (completeInstant x h q es w).lane.run.detector =
      (watchSignal q (w.setFront
        { w.lane.front with nextIndex := w.lane.front.nextIndex + 1 })).lane.run.detector := by
  rw [completeInstant_eq x h q es rfl]
  have hres : (watchSignal q (w.setFront { w.lane.front with
      nextIndex := w.lane.front.nextIndex + 1 })).lane.run.resampler = w.lane.run.resampler :=
    (watchSignal_input q _).2.2.2
  generalize watchSignal q _ = v at hres ⊢
  have ht := trackStage_onlyTracked w.lane.front.nextIndex (es.count .perf) v.lane.run.tracker.e v
  have hprev := congrArg (fun r : Run => r.resampler.prev) ht.run
  have hrp := congrArg (fun r : Run => r.resampler.rp) ht.run
  simp only [hres] at hprev hrp
  rw [resampleInstant_detector_of_noOutput (by rwa [hprev, hrp]), ht.run]

/-- What the front end of a completed instant shows of the signal (R16). -/
theorem completed_signal {l : LaneId} {s t : State} {x : Int} {h : Option Halves} {q : Quality}
    {pendingA : Option PendingWord} {edges : List EdgeKind} (hc : Completed l s t x h q pendingA edges)
    {st : SignalState} (ha : signalAfter s.lanes[l].front q = (st, 0, 0)) :
    t.lanes[l].front.signal = st ∧ t.lanes[l].front.darkRun = 0 ∧
      t.lanes[l].front.recoveryRun = 0 := by
  obtain ⟨-, -, hfront, -⟩ := hc
  rw [ha] at hfront
  rw [hfront]
  exact ⟨rfl, rfl, rfl⟩

end Sys2Proof.Machine

namespace Sys2Proof.Settled

open Sys2Proof.Machine

/-- Settles O30: the signal watch is the whole loss or recovery, and the rest of the instant keeps what it
raised; while the signal is lost no output opens a record. -/
theorem signalChangesAtSixtyFour : Obligations.SignalChangesAtSixtyFour := by
  intro s l c q edges hc
  obtain ⟨x, h, w, hheld, hstep, hevents, pendingA, held, g, rfl⟩ := exists_completesFrom hc
  have hcompleted := completed_putWork (s := s) (w := s.instantWork l pendingA held g) x h q edges rfl
    (.refl _) rfl
  have hlane := lane_putWork_completeInstant s (w := s.instantWork l pendingA held g) (l := l) rfl x h q
    edges
  have hrow := exec_causeRow c s
  rw [hstep] at hrow
  refine ⟨fun hs hd hq => ?_, fun hs hr hq => ?_⟩
  · subst hq
    have hafter := signalAfter_loss hs hd
    obtain ⟨hevent, hlatch⟩ := completeInstant_lost_raises (w := s.instantWork l pendingA held g) x h
      edges hs (congrArg Prod.fst hafter)
    obtain ⟨hsignal, hdark, hrecovery⟩ := completed_signal hcompleted hafter
    have hnamed := namedEvent_of_mem hheld (hevents ▸ hevent)
    refine ⟨_, congrArg Host.Outcome.next (hnamed.trans hstep), hrow, hsignal, hdark, hrecovery,
      ?_, ?_, ?_⟩
    · rw [hlane]
      exact hlatch
    · rw [hlane]
      exact completeInstant_lost_noneOpen (w := s.instantWork l pendingA held g) x h edges hs
        (congrArg Prod.fst hafter)
    · rintro f y rfl rfl
      exact ⟨fun hn => watchSignal_loss_none (by exact hs) (by exact hd) hn,
        fun pre post r hq hr hu => watchSignal_loss_some (by exact hs) (by exact hd) hq hr hu⟩
  · have hafter := signalAfter_recovery hs hr hq
    obtain ⟨hevent, hlatch⟩ := completeInstant_recovered_raises (w := s.instantWork l pendingA held g) x h
      edges hs (congrArg Prod.fst hafter)
    obtain ⟨hsignal, hdark, hrecovery⟩ := completed_signal hcompleted hafter
    have hnamed := namedEvent_of_mem hheld (hevents ▸ hevent)
    refine ⟨_, congrArg Host.Outcome.next (hnamed.trans hstep), hrow, hsignal, hdark, hrecovery,
      ?_, ?_, ?_⟩
    · rw [hlane]
      exact hlatch
    · rintro f rfl
      exact watchSignal_recovery hs hr hq
    · intro hn
      rw [hlane, completeInstant_detector_of_noOutput x h q edges hn, watchSignal_recovery hs hr hq]
      rfl

end Sys2Proof.Settled

/-! # The perforation tracker, and what one step can do to a lane

An edge and the timeout test by cases, the range of E, the tracker after an instant, and what each row makes
of a lane, said once for every invariant of the lanes. Settles O32. -/

namespace Sys2Proof.Machine

/-! ### One edge -/

section Edges

variable {T : Tracker} {m : Pos} (nom : Int) (shift : Nat) (k : Pos)

/-- The edge that ends HOLDOVER is the first mark of a new acquisition (R33). -/
theorem Tracker.onEdge_holdover (h : T.state = .holdover) :
    T.onEdge nom shift k = ({ T with state := .acquiring, lastMark := some k }, .firstMark) := by
  simp only [Tracker.onEdge, h]

/-- A first mark is taken and changes nothing else (R27). -/
theorem Tracker.onEdge_first (h : T.state ≠ .holdover) (hm : T.lastMark = none) :
    T.onEdge nom shift k = ({ T with lastMark := some k }, .firstMark) := by
  unfold Tracker.onEdge
  cases hs : T.state with
  | holdover => exact absurd hs h
  | acquiring | locked => simp only [hm]

theorem Tracker.onEdge_acquiring (h : T.state = .acquiring) (hm : T.lastMark = some m) :
    T.onEdge nom shift k = (T.acquire nom k (interval256 k m), .acquiringMark) := by
  simp only [Tracker.onEdge, h, hm]

theorem Tracker.onEdge_locked (h : T.state = .locked) (hm : T.lastMark = some m) :
    T.onEdge nom shift k =
      (T.lockedEdge nom shift k (interval256 k m) (classify T.e (interval256 k m)),
        classify T.e (interval256 k m)) := by
  simp only [Tracker.onEdge, h, hm]

/-- A matching interval becomes E and lengthens the run, whose fourth locks (R28; assumption 7). -/
theorem Tracker.acquire_match {n256 : Int} (h : |n256 - T.e| ≤ T.e / 8) :
    T.acquire nom k n256 =
      { T with
        e := clampE nom n256, lastMark := some k, acqRun := min (T.acqRun + 1) 4
        state := if 3 ≤ T.acqRun then .locked else T.state
        outlierRun := if 3 ≤ T.acqRun then 0 else T.outlierRun } := by
  have hrun : 4 ≤ min (T.acqRun + 1) 4 ↔ 3 ≤ T.acqRun := by omega
  by_cases hl : 3 ≤ T.acqRun <;> simp [Tracker.acquire, floorDiv, h, Config.runToChange, hrun, hl]

/-- An interval that does not match becomes E, and the run starts again (R28). -/
theorem Tracker.acquire_noMatch {n256 : Int} (h : T.e / 8 < |n256 - T.e|) :
    T.acquire nom k n256 = { T with e := clampE nom n256, lastMark := some k, acqRun := 0 } := by
  simp [Tracker.acquire, floorDiv, not_le.2 h, Config.runToChange]

/-- The fourth outlier in a row ends the lock (R31). -/
theorem Tracker.lockedEdge_outlier (n256 : Int) :
    T.lockedEdge nom shift k n256 .outlier =
      if 3 ≤ T.outlierRun then
        { T with
          state := .acquiring, lastMark := some k, acqRun := 0, outlierRun := T.outlierRun + 1 }
      else { T with lastMark := some k, outlierRun := T.outlierRun + 1 } := by
  have hrun : 4 ≤ T.outlierRun + 1 ↔ 3 ≤ T.outlierRun := by omega
  simp only [Tracker.lockedEdge, Config.runToChange, hrun]

theorem classify_spurious_iff {e n : Int} : classify e n = .spurious ↔ n < e / 2 := by
  unfold classify floorDiv
  split
  · simp [*]
  · split <;> simp [*]

theorem classify_normal_iff {e n : Int} :
    classify e n = .normal ↔ e / 2 ≤ n ∧ 3 * e / 4 ≤ n ∧ n ≤ 5 * e / 4 := by
  unfold classify floorDiv
  split
  · simp; omega
  · split <;> simp <;> omega

theorem classify_outlier_iff {e n : Int} :
    classify e n = .outlier ↔ e / 2 ≤ n ∧ (n < 3 * e / 4 ∨ 5 * e / 4 < n) := by
  unfold classify floorDiv
  split
  · simp; omega
  · split <;> simp <;> omega

/-- The three classes of an edge in LOCKED (R29). -/
theorem classify_cases (e n : Int) :
    classify e n = .spurious ∨ classify e n = .normal ∨ classify e n = .outlier := by
  rw [classify_spurious_iff, classify_normal_iff, classify_outlier_iff]
  omega

/-- T' is T after a mark taken at k: k is the last mark, E is kept or clamped to its range, and the tracker
is not in HOLDOVER (R27 to R31, R33). -/
structure Tracker.Marked (T T' : Tracker) (nom : Int) (k : Pos) : Prop where
  lastMark : T'.lastMark = some k
  estimate : T'.e = T.e ∨ ∃ v, T'.e = clampE nom v
  state : T'.state ≠ .holdover

theorem Tracker.acquire_marked (h : T.state = .acquiring) (n256 : Int) :
    T.Marked (T.acquire nom k n256) nom k := by
  rcases le_or_gt |n256 - T.e| (T.e / 8) with hmatch | hmiss
  · rw [Tracker.acquire_match nom k hmatch]
    refine ⟨rfl, .inr ⟨_, rfl⟩, ?_⟩
    dsimp only
    split <;> simp [h]
  · rw [Tracker.acquire_noMatch nom k hmiss]
    exact ⟨rfl, .inr ⟨_, rfl⟩, by simp [h]⟩

theorem Tracker.lockedEdge_marked (h : T.state = .locked) (n256 : Int) {v : Verdict}
    (hv : v = .normal ∨ v = .outlier) : T.Marked (T.lockedEdge nom shift k n256 v) nom k := by
  rcases hv with rfl | rfl
  · exact ⟨rfl, .inr ⟨_, rfl⟩, by simp [Tracker.lockedEdge, h]⟩
  · rw [Tracker.lockedEdge_outlier]
    split
    · exact ⟨rfl, .inl rfl, by simp⟩
    · exact ⟨rfl, .inl rfl, by simp [h]⟩

/-- An edge is spurious and ignored, or it is a mark that is taken (R27 to R31, R33). -/
theorem Tracker.onEdge_cases (T : Tracker) (nom : Int) (shift : Nat) (k : Pos) :
    T.onEdge nom shift k = (T, .spurious) ∨
      (T.onEdge nom shift k).2 ≠ .spurious ∧ T.Marked (T.onEdge nom shift k).1 nom k := by
  by_cases hh : T.state = .holdover
  · rw [Tracker.onEdge_holdover nom shift k hh]
    exact .inr ⟨by simp, rfl, .inl rfl, by simp⟩
  cases hm : T.lastMark with
  | none =>
    rw [Tracker.onEdge_first nom shift k hh hm]
    exact .inr ⟨by simp, rfl, .inl rfl, hh⟩
  | some m =>
    cases hs : T.state with
    | holdover => exact absurd hs hh
    | acquiring =>
      rw [Tracker.onEdge_acquiring nom shift k hs hm]
      exact .inr ⟨by simp, Tracker.acquire_marked nom k hs _⟩
    | locked =>
      rw [Tracker.onEdge_locked nom shift k hs hm]
      rcases classify_cases T.e (interval256 k m) with hc | hc
      · exact .inl (by rw [hc]; rfl)
      · exact .inr ⟨by rcases hc with hc | hc <;> simp [hc],
          Tracker.lockedEdge_marked nom shift k hs _ hc⟩

end Edges

/-! ### The class of an edge -/

/-- Only in LOCKED, and after a mark, does an edge have a class of R29. -/
theorem Tracker.onEdge_class_iff (T : Tracker) (nom : Int) (shift : Nat) (k : Pos) {v : Verdict}
    (hf : v ≠ .firstMark) (ha : v ≠ .acquiringMark) :
    (T.onEdge nom shift k).2 = v ↔
      T.state = .locked ∧ ∃ m ∈ T.lastMark, classify T.e (interval256 k m) = v := by
  by_cases hh : T.state = .holdover
  · simp [Tracker.onEdge_holdover nom shift k hh, hh, hf.symm]
  cases hm : T.lastMark with
  | none => simp [Tracker.onEdge_first nom shift k hh hm, hf.symm]
  | some m =>
    cases hs : T.state with
    | holdover => exact absurd hs hh
    | acquiring => simp [Tracker.onEdge_acquiring nom shift k hs hm, ha.symm]
    | locked => simp [Tracker.onEdge_locked nom shift k hs hm]

theorem Tracker.onEdge_spurious_iff (T : Tracker) (nom : Int) (shift : Nat) (k : Pos) :
    (T.onEdge nom shift k).2 = .spurious ↔
      T.state = .locked ∧ ∃ m ∈ T.lastMark, 256 * ((k - m).toNat : Int) < T.e / 2 := by
  simp only [T.onEdge_class_iff nom shift k (v := .spurious) (by simp) (by simp),
    classify_spurious_iff, interval256]

theorem Tracker.onEdge_outlier_iff (T : Tracker) (nom : Int) (shift : Nat) (k : Pos) :
    (T.onEdge nom shift k).2 = .outlier ↔
      T.state = .locked ∧ ∃ m ∈ T.lastMark, T.e / 2 ≤ 256 * ((k - m).toNat : Int) ∧
        (256 * ((k - m).toNat : Int) < 3 * T.e / 4 ∨ 5 * T.e / 4 < 256 * ((k - m).toNat : Int)) := by
  simp only [T.onEdge_class_iff nom shift k (v := .outlier) (by simp) (by simp),
    classify_outlier_iff, interval256]

/-! ### The timeout test -/

theorem Tracker.timeout_stays {T : Tracker} {loss : Int} {k : Pos}
    (h : T.state = .holdover ∨ 256 * T.elapsed k ≤ loss * T.e) : T.timeout loss k = T := by
  unfold Tracker.timeout
  rw [if_neg]
  rintro ⟨hs, he⟩
  exact h.elim hs (not_le.2 he)

theorem Tracker.timeout_acquiring {T : Tracker} {loss : Int} {k : Pos} (hs : T.state = .acquiring)
    (h : loss * T.e < 256 * T.elapsed k) :
    T.timeout loss k = { T with state := .holdover, acqRun := 0 } := by
  simp [Tracker.timeout, hs, h]

theorem Tracker.timeout_locked {T : Tracker} {loss : Int} {k : Pos} (hs : T.state = .locked)
    (h : loss * T.e < 256 * T.elapsed k) :
    T.timeout loss k = { T with state := .holdover, outlierRun := 0 } := by
  simp [Tracker.timeout, hs, h]

theorem Tracker.timeout_state (T : Tracker) (loss : Int) (k : Pos) :
    (T.timeout loss k).state = T.state ∨ (T.timeout loss k).state = .holdover := by
  unfold Tracker.timeout
  split
  · split <;> exact .inr rfl
  · exact .inl rfl

/-- At its last mark no time has passed (R32). -/
theorem Tracker.timeout_at_mark {T : Tracker} {loss : Int} {k : Pos} (hm : T.lastMark = some k)
    (hl : 0 ≤ loss) (he : 0 ≤ T.e) : T.timeout loss k = T := by
  refine Tracker.timeout_stays (.inr ?_)
  simpa [Tracker.elapsed, hm] using mul_nonneg hl he

/-- The timeout test keeps E and the last mark (R32). -/
theorem Tracker.timeout_keeps (T : Tracker) (loss : Int) (k : Pos) :
    (T.timeout loss k).e = T.e ∧ (T.timeout loss k).lastMark = T.lastMark := by
  unfold Tracker.timeout
  split
  · split <;> exact ⟨rfl, rfl⟩
  · exact ⟨rfl, rfl⟩

/-! ### The range of E -/

/-- E lies in its range under NOM (R25). -/
abbrev Tracker.InRange (nom : Int) (T : Tracker) : Prop := 128 * nom ≤ T.e ∧ T.e ≤ 512 * nom

theorem clampE_inRange {nom : Int} (h : 0 ≤ nom) (v : Int) :
    128 * nom ≤ clampE nom v ∧ clampE nom v ≤ 512 * nom := by
  unfold clampE clampTo
  omega

theorem Tracker.onEdge_inRange {nom : Int} (hn : 0 ≤ nom) (shift : Nat) (k : Pos) {T : Tracker}
    (h : T.InRange nom) : (T.onEdge nom shift k).1.InRange nom := by
  rcases T.onEdge_cases nom shift k with he | ⟨-, -, he | ⟨v, he⟩, -⟩
  · rwa [he]
  · rwa [Tracker.InRange, he]
  · rw [Tracker.InRange, he]
    exact clampE_inRange hn v

/-! ### The tracker after an instant -/

/-- The tracker after n edges attached to instant k (R26). -/
def Tracker.edges (T : Tracker) (nom : Int) (shift : Nat) (k : Pos) (n : Nat) : Tracker :=
  (fun T : Tracker => (T.onEdge nom shift k).1)^[n] T

theorem Tracker.edges_inRange {nom : Int} (hn : 0 ≤ nom) (shift : Nat) (k : Pos) (n : Nat)
    {T : Tracker} (h : T.InRange nom) : (T.edges nom shift k n).InRange nom := by
  unfold Tracker.edges
  induction n with
  | zero => exact h
  | succ n ih =>
    rw [Function.iterate_succ_apply']
    exact Tracker.onEdge_inRange hn shift k ih

/-- A lane's tracker after instant k with n PERF edges: the edges one by one, then the test (R26). -/
def Lane.trackerAfter (l : Lane) (k : Pos) (n : Nat) : Tracker :=
  (l.run.tracker.edges (l.params.get .nom) (l.params.get .trackShift).toNat k n).timeout
    (l.params.get .lossFactor) k

theorem Lane.trackerAfter_inRange {l : Lane} (hn : 0 ≤ l.params.get .nom)
    (h : l.run.tracker.InRange (l.params.get .nom)) (k : Pos) (n : Nat) :
    (l.trackerAfter k n).InRange (l.params.get .nom) := by
  have he := Tracker.edges_inRange hn (l.params.get .trackShift).toNat k n h
  unfold Tracker.InRange at *
  rwa [Lane.trackerAfter, (Tracker.timeout_keeps _ _ _).1]

@[simp] theorem trackEdge_tracker (k : Pos) (w : Work) :
    (trackEdge k w).lane.run.tracker =
      (w.lane.run.tracker.onEdge (w.lane.params.get .nom)
        (w.lane.params.get .trackShift).toNat k).1 := by
  simp [trackEdge, Work.p]

theorem Work.Keeps.state {w w' : Work} (h : w.Keeps w') : w'.lane.state = w.lane.state := by
  obtain ⟨hstate, -⟩ := h.config
  exact hstate

theorem Work.Keeps.params {w w' : Work} (h : w.Keeps w') : w'.lane.params = w.lane.params := by
  obtain ⟨-, -, hparams, -⟩ := h.config
  exact hparams

theorem Work.Keeps.mask {w w' : Work} (h : w.Keeps w') : w'.lane.mask = w.lane.mask := by
  obtain ⟨-, -, -, -, -, hmask⟩ := h.config
  exact hmask

theorem trackEdges_tracker (k : Pos) (n : Nat) (w : Work) :
    (trackEdges k n w).lane.run.tracker =
      w.lane.run.tracker.edges (w.lane.params.get .nom) (w.lane.params.get .trackShift).toNat k n := by
  induction n generalizing w with
  | zero => rfl
  | succ n ih =>
    rw [trackEdges, ih, trackEdge_tracker, (trackEdge_keeps k w).params]
    rfl

@[simp] theorem trackTimeout_tracker (k : Pos) (w : Work) :
    (trackTimeout k w).lane.run.tracker =
      w.lane.run.tracker.timeout (w.lane.params.get .lossFactor) k := by
  simp [trackTimeout, Work.p]

theorem trackInstant_tracker (k : Pos) (n : Nat) (w : Work) :
    (trackInstant k n w).lane.run.tracker = w.lane.trackerAfter k n := by
  rw [trackInstant, trackTimeout_tracker, trackEdges_tracker, (trackEdges_keeps k n w).params]
  rfl

@[simp] theorem restep_tracker (w : Work) (e : Int) :
    (w.restep e).lane.run.tracker = w.lane.run.tracker := by
  unfold Work.restep
  dsimp only
  split <;> rfl

/-- The outputs of an instant leave the tracker alone (R39). -/
@[simp] theorem resampleInstant_tracker (next : PrevInstant) (b : Bool) (w : Work) :
    (resampleInstant next b w).lane.run.tracker = w.lane.run.tracker := by
  cases hp : w.lane.run.resampler.prev with
  | none => rw [resampleInstant_first hp]; rfl
  | some p =>
    rw [resampleInstant_later hp]
    exact (produceUpTo_frame p next 21 (w.withSplice next.index b)).2.2

/-- The work that the signal watch of an instant of quality q leaves to the tracker (R15, R16, R26). -/
def Work.watched (w : Work) (q : Quality) : Work :=
  watchSignal q (w.setFront { w.lane.front with nextIndex := w.lane.front.nextIndex + 1 })

theorem Work.watched_keeps (w : Work) (q : Quality) : w.Keeps (w.watched q) :=
  (keeps_setFront w _).trans (watchSignal_keeps q _)

@[simp] theorem Work.watched_tracker (w : Work) (q : Quality) :
    (w.watched q).lane.run.tracker = w.lane.run.tracker := by
  obtain ⟨-, -, htracker, -⟩ := watchSignal_input q
    (w.setFront { w.lane.front with nextIndex := w.lane.front.nextIndex + 1 })
  exact htracker

@[simp] theorem Work.watched_resampler (w : Work) (q : Quality) :
    (w.watched q).lane.run.resampler = w.lane.run.resampler := by
  obtain ⟨-, -, -, hresampler⟩ := watchSignal_input q
    (w.setFront { w.lane.front with nextIndex := w.lane.front.nextIndex + 1 })
  exact hresampler

/-- A completed instant takes the tracker through its edges and the timeout test (R26). -/
theorem completeInstant_tracker (x : Int) (h : Option Halves) (q : Quality) (es : List EdgeKind)
    (w : Work) :
    (completeInstant x h q es w).lane.run.tracker =
      w.lane.trackerAfter w.lane.front.nextIndex (es.count .perf) := by
  rw [completeInstant_eq x h q es (v := w.watched q) rfl, resampleInstant_tracker, restep_tracker,
    trackInstant_tracker]
  simp only [Lane.trackerAfter, Work.watched_tracker, (w.watched_keeps q).params]

/-! ### What a step can do to a lane -/

/-- v is what one row of the table makes of a lane at work w: nothing, a command's effect where its checks
pass, an input event, a notice, or one of the Repair Engine's events on a lane. -/
inductive Work.ByRow (w : Work) : Work → Prop
  | unchanged : w.ByRow w
  | enable (h : w.lane.state = .disabled) : w.ByRow (w.setLane { w.lane with state := .stopped })
  | disable (h : w.lane.state = .stopped) : w.ByRow (w.setLane { w.lane with state := .disabled })
  | start (h : w.lane.state = .stopped) : w.ByRow (w.setLane w.lane.start)
  | stop (h : w.lane.state = .running) : w.ByRow (stopEffects w)
  | reset : w.ByRow (resetLaneEffects w)
  | toDefaults (h : w.lane.state ≠ .running) : w.ByRow (w.setLane w.lane.toDefaults)
  | setMask (m : Byte) : w.ByRow (w.setLane { w.lane with mask := m })
  | setParam (p : Param) (v : Int) (h : p.row.stoppedOnly = true → w.lane.state ≠ .running) :
      w.ByRow (w.setLane (w.lane.writeParam p v))
  | writeTable (t : Table) (first : Nat) (vs : List Int)
      (hr : rangeOk (t.size w.lane) first vs.length = true)
      (hs : t.stoppedOnly = true → w.lane.state ≠ .running) :
      w.ByRow (w.setLane (w.lane.writeTable t first (vs.map t.clamp)))
  | loadSegment (i : SlotId) (d : Descriptor) (h : w.lane.state ≠ .disabled)
      (hi : w.lane.slotToLoad = some i) :
      w.ByRow (w.setLane { w.lane.setSlot i (.loaded d) with
        loadOrder := (w.lane.setSlot i (.loaded d)).loadOrder ++ [i] })
  | requestEnd (i : SlotId) (d : Descriptor) (r : Report) (q : Bool) (m : Nat)
      (h : w.lane.slot i = .running d r q m) :
      w.ByRow (w.setLane (w.lane.setSlot i (.running d r true m)))
  | unload (i : SlotId) (d : Descriptor) (h : w.lane.slot i = .loaded d) :
      w.ByRow (w.setLane { w.lane.setSlot i .empty with
        loadOrder := (w.lane.setSlot i .empty).loadOrder.filter (· ≠ i) })
  | collect (i : SlotId) (d : Descriptor) (r : Report) (reason : EndReason)
      (h : w.lane.slot i = .finished d r reason) : w.ByRow (w.setLane (w.lane.setSlot i .empty))
  | word (f : SensorFields) : w.ByRow (takeWord f w)
  | edge (k : EdgeKind) : w.ByRow (takeEdge k w)
  | generate : w.ByRow (generateInstant w)
  | notice (id : LaneId) : w.ByRow (formLaneNotice id w)
  | load (r : DefectRecord) (b : BankId) (runs : Bool) (h : w.lane.run.queue.oldestQueued = some r) :
      w.ByRow (w.setRun { w.lane.run with
        queue := w.lane.run.queue.update (loadedRecord w.lane r b runs) })
  | startRepair (j : Job) (b : BankId) (r : DefectRecord) (hr : w.lane.recordOfJob j b = some r)
      (hs : r.state = .loaded) :
      w.ByRow (w.setRun { w.lane.run with
        queue := w.lane.run.queue.update { r with state := .inRepair } })
  | writeBack (b : BankId) (j : Job) (results : List Int) : w.ByRow (writeBackLane b j results w)

/-- No row gives a lane's event to another lane. -/
theorem Work.ByRow.id {w v : Work} (h : w.ByRow v) : v.id = w.id := by
  cases h with
  | stop _ =>
    obtain ⟨_, _, _, -, hid⟩ := stopEffects_lane w
    exact hid
  | reset =>
    obtain ⟨_, _, _, -, hid⟩ := stopEffects_lane w
    unfold resetLaneEffects
    dsimp only
    split
    · exact hid
    · rfl
  | word f => exact (takeWord_keeps f w).id
  | edge k => exact (takeEdge_keeps k w).id
  | generate => exact (generateInstant_keeps w).id
  | notice id => exact (formLaneNotice_stays id w).1
  | writeBack b j results => exact (writeBackLane_keeps b j results w).1.id
  | _ => rfl

/-! #### The commands that a body checks -/

theorem setParamBody_byRow (payload : List Byte) (w : Work) : w.ByRow (setParamBody payload w).1 := by
  unfold setParamBody
  dsimp only
  split
  · exact .unchanged
  · split
    case isTrue => exact .unchanged
    case isFalse h => exact .setParam _ _ (by simpa using h)

theorem writeTableBody_byRow (payload : List Byte) (w : Work) :
    w.ByRow (writeTableBody payload w).1 := by
  unfold writeTableBody
  dsimp only
  split
  case h_1 | h_2 => exact .unchanged
  case h_3 t _ _ =>
    split
    case isTrue => exact .unchanged
    case isFalse hrange =>
      split
      case isTrue => exact .unchanged
      case isFalse =>
        split
        case isTrue => exact .unchanged
        case isFalse hstop =>
          exact .writeTable t _ _ (by simpa [writtenValues] using hrange) (by simpa using hstop)

theorem loadSegmentBody_byRow (payload : List Byte) (w : Work) :
    w.ByRow (loadSegmentBody payload w).1 := by
  unfold loadSegmentBody
  split
  case isTrue => exact .unchanged
  case isFalse h =>
    split
    case h_1 => exact .unchanged
    case h_2 i hi => exact .loadSegment i _ h hi

theorem endSegmentBody_byRow (payload : List Byte) (w : Work) :
    w.ByRow (endSegmentBody payload w).1 := by
  unfold endSegmentBody
  split
  case h_1 => exact .unchanged
  case h_2 i _ =>
    split
    case h_1 h => exact .requestEnd i _ _ _ _ h
    case h_2 h => exact .unload i _ h
    case h_3 | h_4 => exact .unchanged

theorem collectReportBody_byRow (payload : List Byte) (w : Work) :
    w.ByRow (collectReportBody payload w).1 := by
  unfold collectReportBody
  split
  case h_1 => exact .unchanged
  case h_2 i _ =>
    split
    case h_1 h => exact .collect i _ _ _ h
    case h_2 | h_3 | h_4 => exact .unchanged

theorem getParamBody_byRow (payload : List Byte) (w : Work) : w.ByRow (getParamBody payload w).1 := by
  unfold getParamBody
  split <;> exact .unchanged

theorem readTableBody_byRow (payload : List Byte) (w : Work) :
    w.ByRow (readTableBody payload w).1 := by
  unfold readTableBody
  dsimp only
  split
  · exact .unchanged
  · split <;> exact .unchanged

/-! #### The state's lanes -/

/-- From s to t every lane is what a row makes of it. -/
def State.LanesByRow (s t : State) : Prop := ∀ i : LaneId, ∃ v, (s.work i).ByRow v ∧ t.lanes[i] = v.lane

theorem State.LanesByRow.of_lanes {s t : State} (h : t.lanes = s.lanes) : s.LanesByRow t :=
  fun i => ⟨_, .unchanged, by rw [h]; rfl⟩

theorem State.LanesByRow.lanes {s t u : State} (h : s.LanesByRow t) (hu : u.lanes = t.lanes) :
    s.LanesByRow u := fun i => by rw [hu]; exact h i

theorem State.LanesByRow.of_setEngine {s t : State} {e : Engine}
    (h : (s.setEngine e).LanesByRow t) : s.LanesByRow t := h

theorem lanesByRow_putWork {s : State} {l : LaneId} {w : Work} (h : (s.work l).ByRow w) :
    s.LanesByRow (s.putWork w) := fun i => by
  rw [State.lanes_putWork]
  split
  case isTrue hi =>
    obtain rfl : i = l := hi.trans h.id
    exact ⟨w, h, rfl⟩
  case isFalse => exact ⟨_, .unchanged, rfl⟩

theorem lanesByRow_laneEvent {s : State} {l : LaneId} {f : Work → Work}
    (h : (s.work l).ByRow (f (s.work l))) : s.LanesByRow (laneEvent l f s) := by
  unfold laneEvent
  split
  · exact .of_lanes rfl
  · exact lanesByRow_putWork h

theorem Work.byRow_ite {w : Work} {x y : Work × Answer} {c : Prop} [Decidable c]
    (hx : c → w.ByRow x.1) (hy : ¬c → w.ByRow y.1) : w.ByRow (if c then x else y).1 := by
  split
  case isTrue h => exact hx h
  case isFalse h => exact hy h

theorem lanesByRow_takeLane {kind : Byte} {lenOk : Nat → Bool} {c : Command}
    {body : Work → Work × Answer} (h : ∀ w : Work, w.ByRow (body w).1) (s : State) :
    s.LanesByRow (takeLane kind lenOk c body s) := by
  rcases takeLane_cases kind lenOk c body s with he | ⟨r, he⟩ | ⟨l, -, -, he⟩ <;> rw [he]
  · exact .of_lanes rfl
  · exact .of_lanes rfl
  · exact (lanesByRow_putWork (h (s.work l))).lanes rfl

theorem lanesByRow_takeDevice {kind : Byte} {len : Nat} {c : Command} {body : State → State × Answer}
    {s : State} (h : (body s).1.lanes = s.lanes) : s.LanesByRow (takeDevice kind len c body s) := by
  rcases takeDevice_cases kind len c body s with he | ⟨r, he⟩ | he <;> rw [he]
  · exact .of_lanes rfl
  · exact .of_lanes rfl
  · exact .of_lanes h

/-- A job load changes the queue of the lane it serves, and no other lane (R109, R111). -/
theorem lanesByRow_loadJob (s : State) : s.LanesByRow (loadJob s) := by
  unfold loadJob
  split
  case h_1 b l _ _ =>
    split
    case h_1 r hr =>
      exact (lanesByRow_putWork (l := l) (.load r b
        (!(s.engine.banks[otherBank b]).isRunning) hr)).lanes rfl
    case h_2 => exact .of_lanes rfl
  case h_2 => exact .of_lanes rfl

theorem lanesByRow_startRepair (s : State) (j : Job) (b : BankId) :
    s.LanesByRow (startRepair s j b) := by
  unfold startRepair
  dsimp only
  split
  case h_1 r hr =>
    split
    case isTrue hs => exact (lanesByRow_putWork (l := j.lane) (.startRepair j b r hr hs)).lanes rfl
    case isFalse => exact .of_lanes rfl
  case h_2 => exact .of_lanes rfl

/-- A completion changes the queue of the lane whose LOADED job starts, and no other lane (R115). -/
theorem lanesByRow_completeJob (s : State) : s.LanesByRow (completeJob s) := by
  unfold completeJob
  dsimp only
  split
  · split
    · exact .of_setEngine (lanesByRow_startRepair _ _ _)
    · exact .of_lanes rfl
  · exact .of_lanes rfl

theorem lanesByRow_writeBackStep (s : State) : s.LanesByRow (writeBackStep s) := by
  unfold writeBackStep writeBackWork
  rcases s.engine.bankToWrite with _ | ⟨b, j, rs⟩
  · exact .of_lanes rfl
  · exact (lanesByRow_putWork (l := j.lane) (.writeBack b j rs)).lanes rfl

theorem lanesByRow_ite_held {s t : State} (h : s.LanesByRow t) :
    s.LanesByRow (if s.resetHeld then s else t) := by
  split
  · exact .of_lanes rfl
  · exact h

theorem lanesByRow_causeStep (s : State) (c : Cause) : s.LanesByRow (causeStep s c) := by
  cases c with
  | word b => exact lanesByRow_laneEvent (.word _)
  | generator l => exact lanesByRow_laneEvent .generate
  | writeBack => exact lanesByRow_ite_held (lanesByRow_writeBackStep s)

theorem lanesByRow_namedEvent (e : StepEvent) (c : Cause) (s : State) :
    s.LanesByRow (namedEvent e c s) := by
  unfold namedEvent
  split
  · exact lanesByRow_causeStep s c
  · exact .of_lanes rfl

/-- The lanes after a step: every one as at reset, or every one what a row makes of it. -/
theorem exec_lanes {i : Instr} {s t : State} (h : exec i s = .next t) :
    (∀ l : LaneId, t.lanes[l] = Lane.reset) ∨ s.LanesByRow t := by
  cases i with
  | resetnAsserted =>
    cases h
    exact .inl State.reset_lanes
  | resetnReleased =>
    cases h
    split
    · exact .inl State.reset_lanes
    · exact .inr (.of_lanes rfl)
  | resetAfterReply =>
    cases h
    split
    · split
      · exact .inl State.reset_lanes
      · exact .inr (.of_lanes rfl)
    · exact .inr (.of_lanes rfl)
  | frameSent =>
    cases h
    split
    · split
      · exact .inr (.of_lanes rfl)
      · split
        · exact .inl State.reset_lanes
        · exact .inr (.of_lanes rfl)
    · exact .inr (.of_lanes rfl)
  | identify c | deviceReset c | getLinkStats c | clearLinkStats c =>
    cases h
    exact .inr (lanesByRow_takeDevice rfl)
  | unknownKind kind c =>
    cases h
    split <;> exact .inr (.of_lanes rfl)
  | setNoticeMask c =>
    cases h
    split
    · exact .inr (lanesByRow_takeDevice rfl)
    · exact .inr (lanesByRow_takeLane (fun w => .setMask _) s)
  | enableLane c =>
    cases h
    exact .inr (lanesByRow_takeLane (fun _ => Work.byRow_ite .enable fun _ => .unchanged) s)
  | disableLane c =>
    cases h
    exact .inr (lanesByRow_takeLane (fun _ => Work.byRow_ite .disable fun _ => .unchanged) s)
  | startLane c =>
    cases h
    exact .inr (lanesByRow_takeLane (fun _ => Work.byRow_ite .start fun _ => .unchanged) s)
  | stopLane c =>
    cases h
    exact .inr (lanesByRow_takeLane (fun _ => Work.byRow_ite .stop fun _ => .unchanged) s)
  | defaultLane c =>
    cases h
    exact .inr (lanesByRow_takeLane (fun _ => Work.byRow_ite (fun _ => .unchanged) .toDefaults) s)
  | resetLane c => cases h; exact .inr (lanesByRow_takeLane (fun _ => .reset) s)
  | queryLane c => cases h; exact .inr (lanesByRow_takeLane (fun _ => .unchanged) s)
  | setParam c => cases h; exact .inr (lanesByRow_takeLane (setParamBody_byRow _) s)
  | getParam c => cases h; exact .inr (lanesByRow_takeLane (getParamBody_byRow _) s)
  | readTable c => cases h; exact .inr (lanesByRow_takeLane (readTableBody_byRow _) s)
  | writeTable c => cases h; exact .inr (lanesByRow_takeLane (writeTableBody_byRow _) s)
  | loadSegment c => cases h; exact .inr (lanesByRow_takeLane (loadSegmentBody_byRow _) s)
  | endSegment c => cases h; exact .inr (lanesByRow_takeLane (endSegmentBody_byRow _) s)
  | collectReport c => cases h; exact .inr (lanesByRow_takeLane (collectReportBody_byRow _) s)
  | sensorWord b => cases h; exact .inr (lanesByRow_laneEvent (.word _))
  | perfEdge l | spliceEdge l => cases h; exact .inr (lanesByRow_laneEvent (.edge _))
  | generatorInstant l => cases h; exact .inr (lanesByRow_laneEvent .generate)
  | signalLost c | signalRecovered c | trackLock c | outlierLossOfLock c | trackTimeout c
  | recordClose c | templateSwap c | floorUpdate c | segmentLengthEnd c =>
    cases h
    exact .inr (lanesByRow_namedEvent _ c s)
  | jobLoad => cases h; exact .inr (lanesByRow_ite_held (lanesByRow_loadJob s))
  | jobCompletion => cases h; exact .inr (lanesByRow_ite_held (lanesByRow_completeJob s))
  | writeBack => cases h; exact .inr (lanesByRow_ite_held (lanesByRow_writeBackStep s))
  | frameReceived codes =>
    cases h
    split
    · split <;> exact .inr (.of_lanes rfl)
    · exact .inr (.of_lanes rfl)
  | replyEntry =>
    cases h
    split
    · split <;> exact .inr (.of_lanes rfl)
    · exact .inr (.of_lanes rfl)
  | noticeFormed latch =>
    cases h
    cases latch with
    | lane l => exact .inr (lanesByRow_laneEvent (.notice l))
    | device =>
      refine .inr (.of_lanes ?_)
      dsimp only [formDeviceNotice]
      split <;> rfl

/-- A lane property that holds at reset and that every row keeps is kept by every step. -/
theorem step_keeps_eachLane {P : Lane → Prop} (hreset : P Lane.reset)
    (hrow : ∀ w v : Work, w.ByRow v → P w.lane → P v.lane) {s t : State} (h : s.EachLane P)
    (hstep : step s = .next t) : t.EachLane P := by
  unfold step at hstep
  split at hstep
  · cases hstep
    intro i
    unfold idleTick
    split <;> exact h i
  · rcases exec_lanes hstep with hl | hl
    · exact fun i => hl i ▸ hreset
    · intro i
      obtain ⟨v, hv, he⟩ := hl i
      exact he ▸ hrow _ v hv (h i)

/-! ### The parameters and E -/

/-- From l to l' a lane keeps its state, its parameters and its tracker. -/
def Lane.SameTracking (l l' : Lane) : Prop :=
  l'.state = l.state ∧ l'.params = l.params ∧ l'.run.tracker = l.run.tracker

theorem Work.KeepsBoth.sameTracking {w w' : Work} (h : w.KeepsBoth w') :
    w.lane.SameTracking w'.lane := ⟨h.1.state, h.1.params, h.2.tracker⟩

/-- The parameters lie in their ranges, and E of a RUNNING lane in its own (R25, R164). -/
def Lane.EstimateOk (l : Lane) : Prop := l.ParamsOk ∧ l.TrackerOk

theorem Lane.EstimateOk.of_same {l l' : Lane} (h : l.EstimateOk) (k : l.SameTracking l') :
    l'.EstimateOk := by
  obtain ⟨hs, hp, ht⟩ := k
  unfold EstimateOk ParamsOk TrackerOk at *
  rwa [hs, hp, ht]

/-- A lane that is not RUNNING has no E to bound (R25). -/
theorem Lane.EstimateOk.of_notRunning {l l' : Lane} (h : l.EstimateOk) (hp : l'.params = l.params)
    (hs : l'.state ≠ .running) : l'.EstimateOk :=
  ⟨by rw [ParamsOk, hp]; exact h.1, fun hr => absurd hr hs⟩

theorem Lane.ParamsOk.nom_pos {l : Lane} (h : l.ParamsOk) : 200 ≤ l.params.get .nom :=
  (h .nom (by decide)).1

/-- A completed instant keeps E in its range (R25). -/
theorem completeInstant_estimateOk (x : Int) (hv : Option Halves) (q : Quality) (es : List EdgeKind)
    {w : Work} (h : w.lane.EstimateOk) : (completeInstant x hv q es w).lane.EstimateOk := by
  have keeps := completeInstant_keeps x hv q es w
  obtain ⟨hp, ht⟩ := h
  refine ⟨by rw [Lane.ParamsOk, keeps.params]; exact hp, fun hr => ?_⟩
  rw [completeInstant_tracker, keeps.params]
  rw [keeps.state] at hr
  have hnom := hp.nom_pos
  exact Lane.trackerAfter_inRange (by omega) (ht hr) _ _

theorem completeSensor_estimateOk (x : Int) (hv : Option Halves) (q : Quality) {w : Work}
    (h : w.lane.EstimateOk) : (completeSensor x hv q w).lane.EstimateOk :=
  completeInstant_estimateOk x hv q _ (h.of_same ⟨rfl, rfl, rfl⟩)

theorem takeWord_estimateOk (f : SensorFields) {w : Work} (h : w.lane.EstimateOk) :
    (takeWord f w).lane.EstimateOk := by
  unfold takeWord
  split
  · split
    · unfold takeDual
      split
      · exact h.of_same ⟨rfl, rfl, rfl⟩
      · exact (h.of_same (l' := (w.setFront _).lane) ⟨rfl, rfl, rfl⟩).of_same (both_count _ _).sameTracking
      · exact completeSensor_estimateOk _ _ _ (h.of_same ⟨rfl, rfl, rfl⟩)
      · exact h.of_same (both_count w _).sameTracking
    · exact completeSensor_estimateOk _ _ _ h
  · exact h

theorem generateInstant_estimateOk {w : Work} (h : w.lane.EstimateOk) :
    (generateInstant w).lane.EstimateOk := by
  unfold generateInstant
  split
  · exact completeInstant_estimateOk _ _ _ _ (h.of_same ⟨rfl, rfl, rfl⟩)
  · exact h

/-- An applied value lies in its parameter's range (R22, R164). -/
theorem Param.applied_inRange (p : Param) (v : Int) :
    p.row.low ≤ p.applied v ∧ p.applied v ≤ p.row.high := by
  have hrange : p.row.low ≤ p.row.high := p.default_inRange.1.trans p.default_inRange.2
  unfold Param.applied
  split
  case isTrue h =>
    subst h
    unfold applyRate
    simp only [Param.row]
    omega
  case isFalse => unfold clampTo; omega

/-- A parameter write changes the parameters alone, but for its consequences, which leave state, parameters
and tracker (R164). -/
theorem Lane.writeParam_sameTracking (l : Lane) (p : Param) (v : Int) :
    ({ l with params := l.params.put p (p.applied v) } : Lane).SameTracking (l.writeParam p v) := by
  unfold writeParam consequences
  split
  case h_5 => split <;> exact ⟨rfl, rfl, rfl⟩
  all_goals exact ⟨rfl, rfl, rfl⟩

/-- A parameter write keeps the ranges; NOM is written on no RUNNING lane (R1, R164). -/
theorem Lane.writeParam_estimateOk {l : Lane} (h : l.EstimateOk) (p : Param) (v : Int)
    (hp : p.row.stoppedOnly = true → l.state ≠ .running) : (l.writeParam p v).EstimateOk := by
  refine Lane.EstimateOk.of_same ⟨fun q hq => ?_, fun hr => ?_⟩ (l.writeParam_sameTracking p v)
  · by_cases hqp : q = p
    · subst hqp
      rw [Params.get_put_same]
      exact q.applied_inRange v
    · rw [Params.get_put_other _ _ _ _ hqp]
      exact h.1 q hq
  · have hnom : Param.nom ≠ p := fun e => hp (e ▸ rfl) hr
    rw [Params.get_put_other _ _ _ _ hnom]
    exact h.2 hr

theorem Lane.toDefaults_estimateOk {l : Lane} (hs : l.state ≠ .running) : l.toDefaults.EstimateOk :=
  ⟨Lane.reset_paramsOk, fun hr => absurd hr hs⟩

/-- START_LANE sets E to 256·NOM (R25). -/
theorem Lane.start_estimateOk {l : Lane} (h : l.EstimateOk) : l.start.EstimateOk := by
  refine ⟨h.1, fun _ => ?_⟩
  have hnom := h.1.nom_pos
  simp only [Lane.start, Run.start]
  omega

theorem stopEffects_estimateOk {w : Work} (h : w.lane.EstimateOk) :
    (stopEffects w).lane.EstimateOk := by
  obtain ⟨a, b, latch, hl, -⟩ := stopEffects_lane w
  rw [hl]
  exact h.of_notRunning rfl (by simp [Lane.discard])

theorem Lane.writeTable_sameTracking (l : Lane) (t : Table) (first : Nat) (vs : List Int) :
    l.SameTracking (l.writeTable t first vs) := by
  cases t <;> exact ⟨rfl, rfl, rfl⟩

theorem formLaneNotice_sameTracking (id : LaneId) (w : Work) :
    w.lane.SameTracking (formLaneNotice id w).lane := by
  unfold formLaneNotice
  split <;> exact ⟨rfl, rfl, rfl⟩

/-- No row takes a parameter or E of a RUNNING lane out of its range (R25, R164). -/
theorem Work.ByRow.estimateOk {w v : Work} (h : w.ByRow v) (ok : w.lane.EstimateOk) :
    v.lane.EstimateOk := by
  cases h with
  | unchanged => exact ok
  | enable _ | disable _ => exact ok.of_notRunning rfl (by simp)
  | start _ => exact Lane.start_estimateOk ok
  | stop _ => exact stopEffects_estimateOk ok
  | reset =>
    by_cases hr : w.lane.state = .running
    · rw [resetLaneEffects_running hr]
      exact (stopEffects_estimateOk ok).of_same ⟨rfl, rfl, rfl⟩
    · rw [resetLaneEffects_notRunning hr]
      exact ok.of_same ⟨rfl, rfl, rfl⟩
  | toDefaults hs => exact Lane.toDefaults_estimateOk hs
  | setParam p v hp => exact Lane.writeParam_estimateOk ok p v hp
  | writeTable t first vs _ _ => exact ok.of_same (w.lane.writeTable_sameTracking t first _)
  | setMask _ | load _ _ _ _ | startRepair _ _ _ _ _ => exact ok.of_same ⟨rfl, rfl, rfl⟩
  | loadSegment i _ _ _ | unload i _ _ | requestEnd i _ _ _ _ _ | collect i _ _ _ _ =>
    exact ok.of_same (both_setSlot w i _).sameTracking
  | word f => exact takeWord_estimateOk f ok
  | edge k =>
    rcases Bool.eq_false_or_eq_true w.takesSensor with ht | ht
    · rw [takeEdge_held ht]; exact ok.of_same ⟨rfl, rfl, rfl⟩
    · rw [takeEdge_ignored ht]; exact ok
  | generate => exact generateInstant_estimateOk ok
  | notice id => exact ok.of_same (formLaneNotice_sameTracking id w)
  | writeBack b j results => exact ok.of_same (writeBackLane_keeps b j results w).sameTracking

end Sys2Proof.Machine

namespace Sys2Proof.Settled

open Sys2Proof.Machine

/-- Settles O32: every row keeps both ranges, since each edge clamps E. -/
theorem trackerEstimateStaysInRange : Obligations.TrackerEstimateStaysInRange := by
  intro s t hp ht hstep
  have hreset : Lane.reset.EstimateOk := ⟨Lane.reset_paramsOk, fun h => absurd h (by decide)⟩
  have ok : t.EachLane Lane.EstimateOk :=
    step_keeps_eachLane hreset (fun _ _ hrow => hrow.estimateOk) (fun i => ⟨hp i, ht i⟩) hstep
  exact ⟨fun i => (ok i).1, fun i => (ok i).2⟩

end Sys2Proof.Settled

/-! # The tracker's report, notice and rows

The bit of TRACK_STATE, which the tracker alone raises, and what an edge and the timeout test do to the
lane around the tracker. Settles O31. -/

namespace Sys2Proof.Machine

/-! ### The latch bit of TRACK_STATE

The blocks before and behind the tracker raise other conditions (R34, R172). -/

@[simp] theorem raise_other_trackBit {c : Condition} (h : c ≠ .trackState) (latch mask : BitVec 8) :
    (latch ||| (c.bit &&& mask)) &&& 1#8 = latch &&& 1#8 :=
  and_of_other_condition latch mask (by
    cases c with
    | trackState => exact absurd rfl h
    | _ => rfl)

theorem ite_trackBit {w x y : Work} {c : Prop} [Decidable c]
    (hx : x.lane.latch &&& 1#8 = w.lane.latch &&& 1#8)
    (hy : y.lane.latch &&& 1#8 = w.lane.latch &&& 1#8) :
    (if c then x else y).lane.latch &&& 1#8 = w.lane.latch &&& 1#8 := by
  split <;> assumption

section Blocks

variable (w : Work) (e : Entry)

@[simp] theorem offerBlock_trackBit (d : Descriptor) (p : Nat) (vs : List Int) :
    (offerBlock w d p vs).lane.latch &&& 1#8 = w.lane.latch &&& 1#8 := by
  unfold offerBlock
  dsimp only
  split <;> simp

@[simp] theorem outputSample_trackBit (d : Descriptor) (y : Int) :
    (outputSample w d e y).lane.latch &&& 1#8 = w.lane.latch &&& 1#8 := by
  unfold outputSample
  exact ite_trackBit (by simp) (by simp)

@[simp] theorem endSegment_trackBit (i : SlotId) (reason : EndReason) :
    (endSegment w i reason).lane.latch &&& 1#8 = w.lane.latch &&& 1#8 := by
  unfold endSegment
  split
  · dsimp only
    split <;> simp
  · rfl

@[simp] theorem startSegment_trackBit (i : SlotId) :
    (startSegment w i e).lane.latch &&& 1#8 = w.lane.latch &&& 1#8 := by
  unfold startSegment
  split <;> simp

@[simp] theorem endTest_trackBit : (endTest w e).lane.latch &&& 1#8 = w.lane.latch &&& 1#8 := by
  unfold endTest
  split
  · rfl
  · split
    · split
      · simp
      · split
        · split <;> simp
        · rfl
    · rfl

@[simp] theorem startTest_trackBit :
    (startTest w e).lane.latch &&& 1#8 = w.lane.latch &&& 1#8 := by
  unfold startTest
  split <;> simp

@[simp] theorem outputStep_trackBit (y : Int) :
    (outputStep w e y).lane.latch &&& 1#8 = w.lane.latch &&& 1#8 := by
  unfold outputStep
  split <;> simp

@[simp] theorem judge_trackBit (y : Int) :
    (judge w e y).lane.latch &&& 1#8 = w.lane.latch &&& 1#8 := by
  simp [judge]

@[simp] theorem offerReport_trackBit (g : BitVec 16) (r : DefectRecord) :
    (offerReport w g r).lane.latch &&& 1#8 = w.lane.latch &&& 1#8 := by
  unfold offerReport
  dsimp only
  split <;> simp

@[simp] theorem retire_trackBit (d : Option Descriptor) (r : DefectRecord) :
    (retire w d r).lane.latch &&& 1#8 = w.lane.latch &&& 1#8 := by
  unfold retire
  dsimp only
  split
  · split <;> simp
  · simp

@[simp] theorem retireAt_trackBit (r : Option DefectRecord) :
    (retireAt w e r).lane.latch &&& 1#8 = w.lane.latch &&& 1#8 := by
  unfold retireAt
  split
  · split <;> simp
  · rfl

@[simp] theorem depart_trackBit : (depart w).lane.latch &&& 1#8 = w.lane.latch &&& 1#8 := by
  unfold depart
  split
  · rfl
  · simp [departStages, hissDepart, humDepart, teachTemplates, countBoundaries]

theorem departUpTo_trackBit (n : Nat) :
    (departUpTo n w).lane.latch &&& 1#8 = w.lane.latch &&& 1#8 := by
  induction n generalizing w with
  | zero => rfl
  | succ n ih =>
    unfold departUpTo
    split
    · rw [ih, depart_trackBit]
    · rfl

@[simp] theorem departureTest_trackBit :
    (departureTest w).lane.latch &&& 1#8 = w.lane.latch &&& 1#8 := departUpTo_trackBit w _

@[simp] theorem openRecord_trackBit (a b : Pos) (c : Causes) (p : Nat) (t : Nat × Nat) :
    (openRecord w a b c p t).lane.latch &&& 1#8 = w.lane.latch &&& 1#8 := by
  unfold openRecord dropRecord
  dsimp only
  split
  · split <;> simp
  · rfl

@[simp] theorem openAt_trackBit (b : Bool) (m : Measures) (d : Demand) :
    (openAt w e b m d).lane.latch &&& 1#8 = w.lane.latch &&& 1#8 := by
  unfold openAt
  dsimp only
  split <;> simp

@[simp] theorem openRemainder_trackBit (p : Pos) (d : Demand) :
    (openRemainder w e p d).lane.latch &&& 1#8 = w.lane.latch &&& 1#8 := by
  unfold openRemainder
  split <;> simp

@[simp] theorem extendRecord_trackBit (r : DefectRecord) (m : Measures) (d : Demand) :
    (extendRecord w r e m d).lane.latch &&& 1#8 = w.lane.latch &&& 1#8 := by
  unfold extendRecord
  dsimp only
  split
  · split <;> simp
  · rfl

@[simp] theorem recordActions_trackBit (m : Measures) (d : Demand) :
    (recordActions w e m d).lane.latch &&& 1#8 = w.lane.latch &&& 1#8 := by
  unfold recordActions
  split
  · split <;> simp
  · simp

@[simp] theorem closingTest_trackBit (n : Pos) :
    (closingTest w n).lane.latch &&& 1#8 = w.lane.latch &&& 1#8 := by
  unfold closingTest
  split
  · split <;> rfl
  · rfl

@[simp] theorem examine_trackBit : (examine w e).lane.latch &&& 1#8 = w.lane.latch &&& 1#8 := by
  unfold examine
  split
  · rfl
  · simp [examineEntry]

theorem makeRoomOnce_trackBit :
    (makeRoomOnce w).lane.latch &&& 1#8 = w.lane.latch &&& 1#8 := by
  unfold makeRoomOnce
  split <;> simp

@[simp] theorem makeRoom_trackBit (n : Nat) :
    (makeRoom n w).lane.latch &&& 1#8 = w.lane.latch &&& 1#8 := by
  induction n generalizing w with
  | zero => rfl
  | succ n ih =>
    unfold makeRoom
    split
    · rfl
    · rw [ih, makeRoomOnce_trackBit]

@[simp] theorem indexOutput_trackBit (o : Output) :
    (indexOutput w o).lane.latch &&& 1#8 = w.lane.latch &&& 1#8 := by
  unfold indexOutput
  dsimp only
  split <;> rfl

@[simp] theorem entryEvent_trackBit (o : Output) :
    (entryEvent w o).lane.latch &&& 1#8 = w.lane.latch &&& 1#8 := by
  simp [entryEvent, placeEntry]

theorem produceUpTo_trackBit (p q : PrevInstant) (n : Nat) :
    (produceUpTo p q n w).lane.latch &&& 1#8 = w.lane.latch &&& 1#8 := by
  induction n generalizing w with
  | zero => rfl
  | succ n ih =>
    unfold produceUpTo
    split
    · rw [ih]
      simp [produce]
    · rfl

theorem resampleInstant_trackBit (next : PrevInstant) (b : Bool) :
    (resampleInstant next b w).lane.latch &&& 1#8 = w.lane.latch &&& 1#8 := by
  cases hp : w.lane.run.resampler.prev with
  | none => rw [resampleInstant_first hp]; rfl
  | some p =>
    rw [resampleInstant_later hp]
    exact produceUpTo_trackBit (w.withSplice next.index b) p next 21

theorem watchSignal_trackBit (q : Quality) :
    (watchSignal q w).lane.latch &&& 1#8 = w.lane.latch &&& 1#8 := by
  unfold watchSignal
  dsimp only
  split
  · unfold onSignalLost closeAtLoss
    dsimp only
    split
    · split <;> simp
    · simp
  · simp [onSignalRecovered]
  · rfl

theorem Work.watched_trackBit (q : Quality) :
    (w.watched q).lane.latch &&& 1#8 = w.lane.latch &&& 1#8 := watchSignal_trackBit _ q

end Blocks

/-! ### An edge and the test on the lane around the tracker -/

@[simp] theorem Work.putTracker_slotA (w : Work) (t : Tracker) :
    (w.putTracker t).lane.slotA = w.lane.slotA := by
  unfold Work.putTracker; dsimp only; split <;> rfl

@[simp] theorem Work.putTracker_slotB (w : Work) (t : Tracker) :
    (w.putTracker t).lane.slotB = w.lane.slotB := by
  unfold Work.putTracker; dsimp only; split <;> rfl

/-- The bit that a change from T to T' puts into a latch under a mask (R34, R173). -/
def trackNotice (T T' : Tracker) (mask : BitVec 8) : BitVec 8 :=
  if T'.state = T.state then 0 else mask &&& 1#8

@[simp] theorem trackNotice_same (T : Tracker) (mask : BitVec 8) : trackNotice T T mask = 0 := if_pos rfl

@[simp] theorem Work.putTracker_latch (w : Work) (t : Tracker) :
    (w.putTracker t).lane.latch =
      w.lane.latch ||| trackNotice w.lane.run.tracker t w.lane.mask := by
  unfold Work.putTracker trackNotice
  by_cases h : t.state = w.lane.run.tracker.state
  · simp [h]
  · simp [h, Condition.bit, BitVec.and_comm]

theorem trackNotice_bit (T T' : Tracker) (mask : BitVec 8) :
    trackNotice T T' mask &&& 1#8 = trackNotice T T' mask := by
  unfold trackNotice
  split
  · rfl
  · rw [BitVec.and_assoc]; rfl

theorem restep_latch (w : Work) (e : Int) : (w.restep e).lane.latch = w.lane.latch := by
  unfold Work.restep
  dsimp only
  split <;> rfl

theorem trackEdge_latch (k : Pos) (w : Work) :
    (trackEdge k w).lane.latch =
      w.lane.latch |||
        trackNotice w.lane.run.tracker (trackEdge k w).lane.run.tracker w.lane.mask := by
  rw [trackEdge_tracker]
  simp [trackEdge, Work.p]

theorem trackTimeout_latch (k : Pos) (w : Work) :
    (trackTimeout k w).lane.latch =
      w.lane.latch |||
        trackNotice w.lane.run.tracker (trackTimeout k w).lane.run.tracker w.lane.mask := by
  rw [trackTimeout_tracker]
  simp [trackTimeout, Work.p]

/-- What an edge adds to the report, by its class (R35, R155). -/
theorem Report.edge_eq {v : Verdict} {spurious outlier : Bool} (hs : v = .spurious ↔ spurious = true)
    (ho : v = .outlier ↔ outlier = true) :
    Report.edge v = fun r =>
      { r with
        perfMarks := if spurious = true then r.perfMarks else min (r.perfMarks + 1) 4294967295
        spurious := if spurious = true then min (r.spurious + 1) 4294967295 else r.spurious
        outliers := if outlier = true then min (r.outliers + 1) 4294967295 else r.outliers } := by
  funext r
  simp only [Report.edge, hs, ho, bump, satAdd, Config.counterMax]

/-- An edge counts by its class, in the RUNNING segment's report (R35). -/
theorem trackEdge_slots (k : Pos) (w : Work) :
    let x := w.lane.count (Report.edge (w.lane.run.tracker.onEdge (w.lane.params.get .nom)
      (w.lane.params.get .trackShift).toNat k).2)
    (trackEdge k w).lane.slotA = x.slotA ∧ (trackEdge k w).lane.slotB = x.slotB := by
  simp [trackEdge, Work.p]

/-- A taken mark becomes a pending PERF mark, once for an index (R44). -/
theorem trackEdge_marks (k : Pos) (w : Work) :
    (trackEdge k w).lane.run.resampler.perfMarks =
      if (w.lane.run.tracker.onEdge (w.lane.params.get .nom)
          (w.lane.params.get .trackShift).toNat k).2 = .spurious ∨
          k ∈ w.lane.run.resampler.perfMarks then
        w.lane.run.resampler.perfMarks
      else w.lane.run.resampler.perfMarks ++ [k] := by
  simp [trackEdge, Work.p]

theorem trackEdges_eq (k : Pos) (n : Nat) (w : Work) : trackEdges k n w = (trackEdge k)^[n] w := by
  induction n generalizing w with
  | zero => rfl
  | succ n ih => exact ih _

/-- The lock gained or lost by an edge is noted (R28, R31). -/
theorem trackEdge_notes (k : Pos) (w : Work) :
    (w.lane.run.tracker.state ≠ .locked → (trackEdge k w).lane.run.tracker.state = .locked →
      .trackLock ∈ (trackEdge k w).trace) ∧
    (w.lane.run.tracker.state = .locked → (trackEdge k w).lane.run.tracker.state = .acquiring →
      .outlierLossOfLock ∈ (trackEdge k w).trace) := by
  rw [trackEdge_tracker]
  simp only [trackEdge, Work.noteIf_trace, Work.p]
  constructor
  · intro h h'
    simp [h, h']
  · intro h h'
    simp [h, h']

/-- The entry into HOLDOVER is noted (R32). -/
theorem trackTimeout_notes {k : Pos} {w : Work} (h : w.lane.run.tracker.state ≠ .holdover)
    (h' : (trackTimeout k w).lane.run.tracker.state = .holdover) :
    .trackTimeout ∈ (trackTimeout k w).trace := by
  rw [trackTimeout_tracker] at h'
  simp [trackTimeout, Work.p, h, h']

/-! ### An instant with at most one edge -/

theorem trackTimeout_state (k : Pos) (w : Work) :
    (trackTimeout k w).lane.run.tracker.state = w.lane.run.tracker.state ∨
      (trackTimeout k w).lane.run.tracker.state = .holdover := by
  rw [trackTimeout_tracker]
  exact Tracker.timeout_state _ _ k

theorem trackTimeout_keeps (k : Pos) (w : Work) : w.Keeps (trackTimeout k w) :=
  ((keeps_count _ _).trans (putTracker_keeps _ _)).trans (keeps_noteIf _ _ _)

/-- E, NOM and LOSS_FACTOR are not negative, as in every RUNNING lane (R25, R164). -/
def Lane.NonNeg (l : Lane) : Prop :=
  0 ≤ l.params.get .nom ∧ 0 ≤ l.params.get .lossFactor ∧ 0 ≤ l.run.tracker.e

section OneEdge

variable {w : Work} {n : Nat} (k : Pos)

/-- One edge and the test change the tracker's state once at most: a mark taken at this instant leaves
nothing to time out (R26, R32). -/
theorem trackEdges_or_timeout (hn : n ≤ 1) (hw : w.lane.NonNeg) :
    (trackEdges k n w).lane.run.tracker = w.lane.run.tracker ∨
      (trackEdges k n w).lane.run.tracker.state ≠ .holdover ∧
        (trackInstant k n w).lane.run.tracker = (trackEdges k n w).lane.run.tracker := by
  obtain ⟨hnom, hloss, he⟩ := hw
  rcases Nat.le_one_iff_eq_zero_or_eq_one.1 hn with rfl | rfl
  · exact .inl rfl
  · rw [trackInstant, trackTimeout_tracker, (trackEdges_keeps k 1 w).params]
    simp only [trackEdges, trackEdge_tracker]
    rcases w.lane.run.tracker.onEdge_cases (w.lane.params.get .nom)
      (w.lane.params.get .trackShift).toNat k with hsame | ⟨-, hmark⟩
    · exact .inl (by rw [hsame])
    · refine .inr ⟨hmark.state, Tracker.timeout_at_mark hmark.lastMark hloss ?_⟩
      rcases hmark.estimate with hkept | ⟨v, hclamped⟩
      · rwa [hkept]
      · rw [hclamped]
        exact le_trans (by omega) (clampE_inRange hnom v).1

theorem trackEdges_latch (hn : n ≤ 1) :
    (trackEdges k n w).lane.latch =
      w.lane.latch |||
        trackNotice w.lane.run.tracker (trackEdges k n w).lane.run.tracker w.lane.mask := by
  rcases Nat.le_one_iff_eq_zero_or_eq_one.1 hn with rfl | rfl
  · simp [trackEdges]
  · exact trackEdge_latch k w

/-- TRACK_STATE is latched exactly at a change of state (R34). -/
theorem trackInstant_latch (hn : n ≤ 1) (hw : w.lane.NonNeg) :
    (trackInstant k n w).lane.latch =
      w.lane.latch |||
        trackNotice w.lane.run.tracker (trackInstant k n w).lane.run.tracker w.lane.mask := by
  have htest : (trackInstant k n w).lane.latch = _ := trackTimeout_latch k (trackEdges k n w)
  rw [htest, trackEdges_latch k hn, (trackEdges_keeps k n w).mask]
  rcases trackEdges_or_timeout k hn hw with hsame | ⟨-, hstays⟩
  · rw [hsame]
    simp [trackInstant]
  · rw [hstays, show (trackTimeout k (trackEdges k n w)).lane.run.tracker = _ from hstays]
    simp

/-- What a tracker that goes from T to T' has noted in a trace (R28, R31, R32). -/
structure TrackNotes (T T' : Tracker) (trace : List StepEvent) : Prop where
  lock : T.state = .acquiring → T'.state = .locked → .trackLock ∈ trace
  loss : T.state = .locked → T'.state = .acquiring → .outlierLossOfLock ∈ trace
  timeout : T.state ≠ .holdover → T'.state = .holdover → .trackTimeout ∈ trace

theorem TrackNotes.mono {T T' : Tracker} {trace trace' : List StepEvent} (h : TrackNotes T T' trace)
    (ht : ∀ e ∈ trace, e ∈ trace') : TrackNotes T T' trace' :=
  ⟨fun a b => ht _ (h.lock a b), fun a b => ht _ (h.loss a b), fun a b => ht _ (h.timeout a b)⟩

theorem trackEdges_notes (hn : n ≤ 1) :
    (w.lane.run.tracker.state = .acquiring → (trackEdges k n w).lane.run.tracker.state = .locked →
      .trackLock ∈ (trackEdges k n w).trace) ∧
    (w.lane.run.tracker.state = .locked → (trackEdges k n w).lane.run.tracker.state = .acquiring →
      .outlierLossOfLock ∈ (trackEdges k n w).trace) := by
  rcases Nat.le_one_iff_eq_zero_or_eq_one.1 hn with rfl | rfl
  · simp +contextual [trackEdges]
  · exact ⟨fun h => (trackEdge_notes k w).1 (by simp [h]), (trackEdge_notes k w).2⟩

theorem trackInstant_notes (hn : n ≤ 1) (hw : w.lane.NonNeg) :
    TrackNotes w.lane.run.tracker (trackInstant k n w).lane.run.tracker (trackInstant k n w).trace := by
  have hnoted := (trackTimeout_keeps k (trackEdges k n w)).trace
  rcases trackEdges_or_timeout k hn hw with hsame | ⟨hne, hstays⟩
  · have hstate : (trackInstant k n w).lane.run.tracker.state = w.lane.run.tracker.state ∨
        (trackInstant k n w).lane.run.tracker.state = .holdover :=
      hsame ▸ trackTimeout_state k (trackEdges k n w)
    refine ⟨fun h h' => ?_, fun h h' => ?_, fun h h' => trackTimeout_notes (by rwa [hsame]) h'⟩ <;>
      simp [h, h'] at hstate
  · obtain ⟨hlock, hloss⟩ := trackEdges_notes (w := w) k hn
    rw [hstays]
    exact ⟨fun h h' => hnoted _ (hlock h h'), fun h h' => hnoted _ (hloss h h'),
      fun _ h' => absurd h' hne⟩

end OneEdge

/-! ### A completed instant -/

theorem trackInstant_step (k : Pos) (n : Nat) (w : Work) :
    (trackInstant k n w).lane.run.resampler.step = w.lane.run.resampler.step := by
  have hedges : (trackEdges k n w).lane.run.resampler.step = w.lane.run.resampler.step := by
    induction n generalizing w with
    | zero => rfl
    | succ n ih => rw [trackEdges, ih]; simp [trackEdge]
  rw [← hedges]
  simp [trackInstant, trackTimeout]

/-- The outputs of an instant keep the step (R39). -/
theorem resampleInstant_step (next : PrevInstant) (b : Bool) (w : Work) :
    (resampleInstant next b w).lane.run.resampler.step = w.lane.run.resampler.step := by
  cases hp : w.lane.run.resampler.prev with
  | none => rw [resampleInstant_first hp]; rfl
  | some p =>
    rw [resampleInstant_later hp]
    obtain ⟨n, -, hn, -⟩ := produceUpTo_eq p next 21 (w.withSplice next.index b)
    rw [hn]
    exact (produce_iterate_rp p next n _).2

/-- The step follows a changed E (R38). -/
theorem restep_step (w : Work) (e : Int) :
    (w.restep e).lane.run.resampler.step =
      if w.lane.run.tracker.e = e then w.lane.run.resampler.step
      else 256 * w.lane.run.tracker.e / w.lane.params.get .samplesPerPerf := by
  unfold Work.restep
  dsimp only
  split <;> rfl

section Instant

variable (x : Int) (h : Option Halves) (q : Quality) (es : List EdgeKind) (w : Work)

theorem completeInstant_step :
    (completeInstant x h q es w).lane.run.resampler.step =
      if (completeInstant x h q es w).lane.run.tracker.e = w.lane.run.tracker.e then
        w.lane.run.resampler.step
      else
        256 * (completeInstant x h q es w).lane.run.tracker.e / w.lane.params.get .samplesPerPerf := by
  rw [completeInstant_eq x h q es (v := w.watched q) rfl, resampleInstant_step,
    resampleInstant_tracker, restep_step, restep_tracker, trackInstant_step,
    (trackInstant_keeps _ _ _).params, (w.watched_keeps q).params, Work.watched_tracker,
    Work.watched_resampler]

/-- Only the tracker's stage of an instant latches TRACK_STATE, and with one edge at most it does so, and
notes its events, at a change of state (R28, R31, R32, R34). -/
theorem completeInstant_notices (hn : es.count .perf ≤ 1) (hw : w.lane.NonNeg) :
    (completeInstant x h q es w).lane.latch &&& 1#8 =
        w.lane.latch &&& 1#8 |||
          trackNotice w.lane.run.tracker (completeInstant x h q es w).lane.run.tracker w.lane.mask ∧
      TrackNotes w.lane.run.tracker (completeInstant x h q es w).lane.run.tracker
        (completeInstant x h q es w).trace := by
  rw [completeInstant_eq x h q es (v := w.watched q) rfl]
  have hv : (w.watched q).lane.NonNeg := by
    unfold Lane.NonNeg
    rwa [(w.watched_keeps q).params, Work.watched_tracker]
  have hlatch := trackInstant_latch w.lane.front.nextIndex hn hv
  have hnotes := trackInstant_notes w.lane.front.nextIndex hn hv
  rw [Work.watched_tracker] at hlatch hnotes
  rw [(w.watched_keeps q).mask] at hlatch
  rw [resampleInstant_trackBit, resampleInstant_tracker, restep_tracker, restep_latch]
  constructor
  · rw [hlatch, BitVec.and_or_distrib_right, Work.watched_trackBit, trackNotice_bit]
  · exact hnotes.mono ((restep_keeps _ _).trans (resampleInstant_keeps _ _ _)).trace

end Instant

/-- A named event that comes about in a completed instant is the whole of its cause's step (assumption 4). -/
theorem State.CompletesFrom.namedEvent_eq {s : State} {l : LaneId} {c : Cause} {q : Quality}
    {edges : List EdgeKind} {x : Int} {h : Option Halves} {w : Work} {e : StepEvent}
    (hc : s.CompletesFrom l c q edges x h w) (he : e ∈ (completeInstant x h q edges w).trace) :
    namedEvent e c s = s.putWork (completeInstant x h q edges w) :=
  (namedEvent_of_mem hc.high (hc.events ▸ he)).trans hc.step

end Sys2Proof.Machine

namespace Sys2Proof.Settled

open Sys2Proof.Machine

/-- Settles O31: the edge and the test by their cases; an instant's state is `trackerAfter`, and with one
edge at most it changes once, at the edge or at the test. -/
theorem trackerTakesInstant : Obligations.TrackerTakesInstant := by
  refine ⟨fun T nom shift k m N hN => ?_, fun T loss a k ha => ?_,
    fun w k T spurious outlier hT hs ho => ?_, fun s l c q edges T k hc hT hk => ?_⟩
  · obtain rfl : N = interval256 k m := hN
    refine ⟨fun h => congrArg Prod.fst (Tracker.onEdge_holdover nom shift k h),
      fun h hm => congrArg Prod.fst (Tracker.onEdge_first nom shift k h hm),
      fun h hm => ?_, fun h hm => ?_⟩
    · rw [Tracker.onEdge_acquiring nom shift k h hm]
      refine ⟨fun hmatch => ?_, Tracker.acquire_noMatch nom k⟩
      rw [← h]
      exact Tracker.acquire_match nom k hmatch
    · rw [Tracker.onEdge_locked nom shift k h hm]
      refine ⟨fun hc => ?_, fun h2 h3 h5 => ?_, fun h2 hc => ?_⟩
      · rw [classify_spurious_iff.2 hc]
        rfl
      · rw [classify_normal_iff.2 ⟨h2, h3, h5⟩]
        rfl
      · rw [classify_outlier_iff.2 ⟨h2, hc⟩]
        exact Tracker.lockedEdge_outlier nom shift k (interval256 k m)
  · obtain rfl : a = T.elapsed k := by
      rw [ha]
      unfold Tracker.elapsed
      cases T.lastMark <;> rfl
    exact ⟨Tracker.timeout_stays, Tracker.timeout_acquiring, Tracker.timeout_locked⟩
  · subst hT
    have hspurious : (w.lane.run.tracker.onEdge (w.lane.params.get .nom)
        (w.lane.params.get .trackShift).toNat k).2 = .spurious ↔ spurious = true := by
      rw [hs, Tracker.onEdge_spurious_iff]
    have houtlier : (w.lane.run.tracker.onEdge (w.lane.params.get .nom)
        (w.lane.params.get .trackShift).toNat k).2 = .outlier ↔ outlier = true := by
      rw [ho, Tracker.onEdge_outlier_iff]
    refine ⟨⟨_, count_counts _ _, ?_⟩, ?_, ⟨_, count_counts _ _, ?_⟩, fun n => ?_⟩
    · rw [← Report.edge_eq hspurious houtlier]
      exact trackEdge_slots k w
    · rw [trackEdge_marks]
      simp only [hspurious]
    · simp [trackTimeout, bump, satAdd, Config.counterMax]
    · rw [trackInstant, trackEdges_eq]
  · subst hT hk
    obtain ⟨x, h, w, hfrom⟩ := exists_completesFrom hc
    obtain ⟨pendingA, held, g, rfl⟩ := hfrom.work
    have hlane := lane_putWork_completeInstant s (w := s.instantWork l pendingA held g) (l := l) rfl x h q
      edges
    refine ⟨_, (exec_causeRow c s).trans (congrArg _ hfrom.step), ?_⟩
    rw [hlane]
    refine ⟨completeInstant_tracker .., completeInstant_step .., fun hnom hloss he hn => ?_⟩
    obtain ⟨hlatch, hnotes⟩ := completeInstant_notices x h q edges (s.instantWork l pendingA held g) hn
      ⟨hnom, hloss, he⟩
    exact ⟨hlatch, fun a b => congrArg Host.Outcome.next (hfrom.namedEvent_eq (hnotes.lock a b)),
      fun a b => congrArg Host.Outcome.next (hfrom.namedEvent_eq (hnotes.loss a b)),
      fun a b => congrArg Host.Outcome.next (hfrom.namedEvent_eq (hnotes.timeout a b))⟩

end Sys2Proof.Settled

/-! # Departures from the ring, and its bounds

What a departure makes of the run, what each block does to the ring's positions, and the walk of an
invariant through a lane's event. Settles O34 and O35. -/

namespace Sys2Proof.Machine

/-! ### What a departure makes of the run -/

theorem retire_run (w : Work) (d : Option Descriptor) (r : DefectRecord) :
    (retire w d r).lane.run = { w.lane.run with queue := w.lane.run.queue.remove r.id } := by
  unfold retire
  dsimp only
  split
  · split <;> simp [offerReport_run]
  · simp

/-- The queue after the departure of entry e, which r covers: r retires at its last entry (R53, R56). -/
def DefectQueue.afterDeparture (q : DefectQueue) (e : Entry) (r : Option DefectRecord) : DefectQueue :=
  match r with
  | some r => if e.pos = r.stop then q.remove r.id else q
  | none => q

theorem retireAt_run (w : Work) (e : Entry) (r : Option DefectRecord) :
    (retireAt w e r).lane.run =
      { w.lane.run with queue := w.lane.run.queue.afterDeparture e r } := by
  unfold retireAt DefectQueue.afterDeparture
  cases r with
  | none => rfl
  | some r =>
    dsimp only
    split
    · exact retire_run _ _ _
    · rfl

/-- A departure passes the oldest entry to the tail, may retire its record, and touches of the rest of the
run the reducer, the former and the dither register alone (R53). -/
theorem depart_run {w : Work} {e : Entry} {es : List Entry} (h : w.lane.run.ring.window = e :: es) :
    (depart w).lane.run =
      { w.lane.run with
        ring := w.lane.run.ring.passToTail e es
        queue := w.lane.run.queue.afterDeparture e (w.lane.run.recordOf e)
        hiss := (depart w).lane.run.hiss
        former := (depart w).lane.run.former
        dither := (depart w).lane.run.dither } := by
  unfold depart
  simp only [h, departStages, retireAt_run]
  rw [judge_onlyFormed _ _ _]
  simp only [hissDepart, Work.noteIf_lane, Work.setRun_lane, humDepart_run]
  rfl

section Departs

variable {w : Work} {e : Entry} {es : List Entry} (h : w.lane.run.ring.window = e :: es)
include h

theorem depart_ring : (depart w).lane.run.ring = w.lane.run.ring.passToTail e es := by
  rw [depart_run h]

theorem depart_queue : (depart w).lane.run.queue =
    w.lane.run.queue.afterDeparture e (w.lane.run.recordOf e) := by
  rw [depart_run h]

end Departs

/-- A departure at an empty window is none. -/
theorem depart_of_empty {w : Work} (h : w.lane.run.ring.window = []) : depart w = w := by
  simp only [depart, h]

@[simp] theorem depart_detector (w : Work) : (depart w).lane.run.detector = w.lane.run.detector := by
  cases h : w.lane.run.ring.window with
  | nil => rw [depart_of_empty h]
  | cons e es => rw [depart_run h]

@[simp] theorem depart_window (w : Work) :
    (depart w).lane.run.ring.window = w.lane.run.ring.window.tail := by
  cases h : w.lane.run.ring.window with
  | nil => rw [depart_of_empty h, h]; rfl
  | cons e es => rw [depart_ring h]; rfl

@[simp] theorem depart_params (w : Work) : (depart w).lane.params = w.lane.params :=
  (depart_keeps w).1.params

/-- The tail after a departure: the ninth oldest entry is released (R55). -/
theorem Ring.passToTail_tail (g : Ring) (e : Entry) (es : List Entry) :
    (g.passToTail e es).tail =
      (g.tail ++ [{ e with departed := true }]).drop (if 8 < g.tail.length + 1 then 1 else 0) := by
  simp only [passToTail, Config.tailCapacity, List.length_append, List.length_singleton]
  split <;> simp

theorem Ring.passToTail_tail_length {g : Ring} (e : Entry) (es : List Entry) (h : g.tail.length ≤ 8) :
    (g.passToTail e es).tail.length = min (g.tail.length + 1) 8 := by
  rw [passToTail_tail]
  split <;> simp <;> omega

/-! ### The departure test -/

/-- The states of a resolved record (R51). -/
theorem RecordState.not_unresolved_iff {st : RecordState} :
    st.unresolved = false ↔ st = .repaired ∨ st = .long ∨ st = .abandoned := by
  cases st <;> simp [unresolved]

theorem RecordState.unresolved_iff {st : RecordState} :
    st.unresolved = true ↔ st = .opened ∨ st = .queued ∨ st = .loaded ∨ st = .inRepair := by
  cases st <;> simp [unresolved]

/-- The oldest window entry is not held: no unresolved record covers it (R51). -/
theorem Run.held_eq_false_iff {run : Run} :
    run.held = false ↔
      ∀ e ∈ run.ring.window.head?, ∀ r ∈ run.recordOf e, r.state.unresolved = false := by
  unfold held
  cases run.ring.window with
  | nil => simp
  | cons e es => cases h : run.recordOf e <;> simp [h]

/-- The oldest window entry is held by an unresolved record (R51). -/
theorem Run.held_iff {run : Run} :
    run.held = true ↔
      ∃ e ∈ run.ring.window.head?, ∃ r ∈ run.recordOf e, r.state.unresolved = true := by
  unfold held
  cases run.ring.window with
  | nil => simp
  | cons e es => simp [Option.any_eq_true]

theorem Work.mayDepart_iff {w : Work} :
    w.mayDepart = true ↔
      w.p .lookahead < (w.lane.run.ring.window.length : Int) ∧ w.lane.run.held = false := by
  simp [mayDepart]

/-- Departures up to n are the iterates of a departure, each where the conditions of R51 hold, and they end
where those fail or at the n-th. -/
theorem departUpTo_eq (n : Nat) (w : Work) :
    ∃ k ≤ n, departUpTo n w = depart^[k] w ∧ (∀ i < k, (depart^[i] w).mayDepart = true) ∧
      (k < n → (depart^[k] w).mayDepart = false) := by
  induction n generalizing w with
  | zero => exact ⟨0, le_rfl, rfl, by simp, by simp⟩
  | succ n ih =>
    unfold departUpTo
    split
    case isTrue h =>
      obtain ⟨k, hk, he, hin, hout⟩ := ih (depart w)
      refine ⟨k + 1, by omega, he, fun i hi => ?_, fun h => hout (by omega)⟩
      cases i with
      | zero => exact h
      | succ i => exact hin i (by omega)
    case isFalse h => exact ⟨0, by omega, rfl, by simp, fun _ => by simpa using h⟩

/-- Departures up to n keep what each departure keeps under the conditions of R51. -/
theorem departUpTo_induction {P : Work → Prop} (n : Nat) {w : Work} (h : P w)
    (hstep : ∀ v : Work, P v → v.mayDepart = true → P (depart v)) : P (departUpTo n w) := by
  induction n generalizing w with
  | zero => exact h
  | succ n ih =>
    unfold departUpTo
    split
    case isTrue hmay => exact ih (hstep w h hmay)
    case isFalse => exact h

theorem departureTest_induction {P : Work → Prop} {w : Work} (h : P w)
    (hstep : ∀ v : Work, P v → v.mayDepart = true → P (depart v)) : P (departureTest w) :=
  departUpTo_induction _ h hstep

theorem iterate_depart_params (n : Nat) (w : Work) : (depart^[n] w).lane.params = w.lane.params := by
  induction n with
  | zero => rfl
  | succ n ih => rw [Function.iterate_succ_apply', depart_params, ih]

theorem iterate_depart_window (n : Nat) (w : Work) :
    (depart^[n] w).lane.run.ring.window = w.lane.run.ring.window.drop n := by
  induction n with
  | zero => rfl
  | succ n ih => rw [Function.iterate_succ_apply', depart_window, ih, List.tail_drop]

/-- The latest eight of a list with one more are the latest eight of those and the one. -/
theorem drop_lastEight_concat {α : Type} (l : List α) (a : α) :
    (l.drop (l.length - 8) ++ [a]).drop (if 8 < (l.drop (l.length - 8)).length + 1 then 1 else 0) =
      (l ++ [a]).drop ((l ++ [a]).length - 8) := by
  rw [← List.drop_append_of_le_length (Nat.sub_le _ _), List.drop_drop]
  simp only [List.length_drop, List.length_append, List.length_singleton]
  congr 1
  split <;> omega

/-- The tail after n departures: the latest eight departed entries (R55). -/
theorem iterate_depart_tail {n : Nat} {w : Work} {t : List Entry}
    (hw : w.lane.run.ring.tail.length ≤ 8) (hn : n ≤ w.lane.run.ring.window.length)
    (ht : t = w.lane.run.ring.tail ++
      (w.lane.run.ring.window.take n).map fun e : Entry => { e with departed := true }) :
    (depart^[n] w).lane.run.ring.tail = t.drop (t.length - 8) := by
  subst ht
  induction n with
  | zero => simp [Nat.sub_eq_zero_of_le hw]
  | succ n ih =>
    have hlt : n < w.lane.run.ring.window.length := hn
    have hwindow : (depart^[n] w).lane.run.ring.window =
        w.lane.run.ring.window[n] :: w.lane.run.ring.window.drop (n + 1) := by
      rw [iterate_depart_window, List.drop_eq_getElem_cons hlt]
    rw [Function.iterate_succ_apply', depart_ring hwindow, Ring.passToTail_tail, ih (by omega),
      drop_lastEight_concat, List.take_add_one,
      List.getElem?_eq_getElem hlt]
    simp only [Option.toList_some, List.map_append, List.map_cons, List.map_nil, List.append_assoc]

end Sys2Proof.Machine

namespace Sys2Proof.Settled

open Sys2Proof.Machine

/-- Settles O35: the test is iterated departures (`departUpTo_eq`), and the window's length is fuel enough
to reach a state where the conditions fail. -/
theorem departureTestRunsOut : Obligations.DepartureTestRunsOut := by
  intro w hD ht
  obtain ⟨n, hn, htest, hmay, hstop⟩ := departUpTo_eq w.lane.run.ring.window.length w
  rw [show departureTest w = depart^[n] w from htest]
  refine ⟨n, rfl, fun k hk => ?_, ?_, iterate_depart_window n w, ?_⟩
  · obtain ⟨hlong, hfree⟩ := Work.mayDepart_iff.1 (hmay k hk)
    rw [Work.p, iterate_depart_params] at hlong
    exact ⟨hlong, fun e he r hr =>
      RecordState.not_unresolved_iff.1 (Run.held_eq_false_iff.1 hfree e he r hr)⟩
  · rcases Nat.lt_or_eq_of_le hn with hlt | rfl
    · have hfails := hstop hlt
      by_cases hlong : w.p .lookahead < ((depart^[n] w).lane.run.ring.window.length : Int)
      · refine .inr ?_
        have hheld : (depart^[n] w).lane.run.held = true := by
          rw [← Bool.not_eq_false]
          exact fun hfree => absurd (Work.mayDepart_iff.2
            ⟨by rwa [Work.p, iterate_depart_params], hfree⟩) (by simp [hfails])
        obtain ⟨e, he, r, hr, hst⟩ := Run.held_iff.1 hheld
        exact ⟨e, he, r, hr, RecordState.unresolved_iff.1 hst⟩
      · exact .inl (not_lt.1 hlong)
    · rw [iterate_depart_window, List.drop_length]
      exact .inl hD
  · rw [iterate_depart_tail ht hn rfl]
    simp only [List.length_append, List.length_map]

end Sys2Proof.Settled

/-! # The ring's bounds and positions

The ring's positions run up to the next output's, whatever a block does to it; and the walk of an invariant
of the ring and the records through the rows of the table. Settles O34. -/

namespace Sys2Proof.Machine

/-! ### The positions a ring holds -/

/-- The positions of the ring's entries, oldest first. -/
def Ring.positions (g : Ring) : List Pos := (g.tail ++ g.window).map (·.pos)

/-- The ring's bounds, and its positions consecutive and ending just before N (R47, R55). -/
structure Ring.UpTo (N : Pos) (g : Ring) : Prop where
  tail_le : g.tail.length ≤ 8
  fill_le : g.fill ≤ 2048
  chain : (g.positions ++ [N]).IsChain fun a b => b = a + 1

/-- A lane's ring is as it should be when it runs up to the next output. -/
theorem Lane.ringOk_iff {l : Lane} : l.RingOk ↔ l.run.ring.UpTo l.run.resampler.nextPos := by
  have hchain : (l.run.ring.positions ++ [l.run.resampler.nextPos]).IsChain (fun a b => b = a + 1) ↔
      (l.run.ring.tail ++ l.run.ring.window).IsChain (fun a b => b.pos = a.pos + 1) ∧
        ∀ e ∈ (l.run.ring.tail ++ l.run.ring.window).getLast?, l.run.resampler.nextPos = e.pos + 1 := by
    rw [Ring.positions, List.isChain_append, List.isChain_map, List.getLast?_map]
    simp only [List.isChain_singleton, true_and, List.head?_cons, Option.mem_map, Option.mem_some_iff,
      forall_exists_index, and_imp, forall_apply_eq_imp_iff₂, forall_eq']
  constructor
  · rintro ⟨ht, hf, hc, hn⟩
    exact ⟨ht, hf, hchain.2 ⟨hc, hn⟩⟩
  · rintro ⟨ht, hf, hc⟩
    exact ⟨ht, hf, hchain.1 hc⟩

theorem Ring.upTo_empty (N : Pos) : (⟨[], []⟩ : Ring).UpTo N :=
  ⟨by simp, by simp [fill], by simp [positions]⟩

/-- A ring of other entries at the same positions is as good. -/
theorem Ring.UpTo.of_positions {N : Pos} {g g' : Ring} (h : g.UpTo N)
    (ht : g'.tail.map (·.pos) = g.tail.map (·.pos))
    (hw : g'.window.map (·.pos) = g.window.map (·.pos)) : g'.UpTo N := by
  have htail : g'.tail.length = g.tail.length := by simpa using congrArg List.length ht
  have hwindow : g'.window.length = g.window.length := by simpa using congrArg List.length hw
  have hpos : g'.positions = g.positions := by simp [positions, ht, hw]
  exact ⟨by rw [htail]; exact h.tail_le, by rw [fill, htail, hwindow]; exact h.fill_le,
    by rw [hpos]; exact h.chain⟩

/-- A departure may release the oldest entry, and leaves the other positions as they are (R53, R55). -/
theorem Ring.UpTo.passToTail {N : Pos} {g : Ring} {e : Entry} {es : List Entry} (h : g.UpTo N)
    (hw : g.window = e :: es) : (g.passToTail e es).UpTo N := by
  have hlength := passToTail_tail_length e es h.tail_le
  have hfill := h.fill_le
  refine ⟨by omega, ?_, h.chain.suffix ?_⟩
  · simp only [fill, hw, hlength, List.length_cons] at hfill ⊢
    show _ + es.length ≤ _
    omega
  · have htail := g.passToTail_tail e es
    refine ⟨(g.tail.map (·.pos) ++ [e.pos]).take (if 8 < g.tail.length + 1 then 1 else 0), ?_⟩
    have hwindow : (g.passToTail e es).window = es := rfl
    simp only [positions, hw, htail, hwindow, List.map_append, List.map_drop, List.map_cons, List.map_nil]
    rw [← List.append_assoc, ← List.append_assoc, List.take_append_drop]
    simp

/-- An entry placed at N in a ring that is not full. -/
theorem Ring.UpTo.place {N : Pos} {g : Ring} {e : Entry} (h : g.UpTo N) (hf : g.fill < 2048)
    (he : e.pos = N) : ({ g with window := g.window ++ [e] } : Ring).UpTo (N + 1) := by
  refine ⟨h.tail_le, ?_, ?_⟩
  · simp only [fill, List.length_append, List.length_singleton] at hf ⊢
    omega
  · have hpos : ({ g with window := g.window ++ [e] } : Ring).positions = g.positions ++ [N] := by
      simp [positions, he]
    rw [hpos, List.isChain_append]
    exact ⟨h.chain, .singleton _, by simp⟩

/-! ### Making room -/

/-- The work in which the record that holds the oldest window entry has been abandoned and OVERRUN raised;
the work as it is when none holds it (R58). -/
def Work.freed (w : Work) : Work :=
  match w.lane.run.holder with
  | some r => (w.setRun (w.lane.run.abandon r)).raise .overrun
  | none => w

/-- A step of making room frees the oldest window entry and lets it depart (R58). -/
theorem makeRoomOnce_eq (w : Work) : makeRoomOnce w = depart w.freed := by
  unfold makeRoomOnce Work.freed
  cases w.lane.run.holder <;> rfl

@[simp] theorem Run.abandon_ring (run : Run) (r : DefectRecord) : (run.abandon r).ring = run.ring := by
  unfold abandon; split <;> rfl

@[simp] theorem Work.freed_ring (w : Work) : w.freed.lane.run.ring = w.lane.run.ring := by
  unfold freed; split <;> simp

theorem makeRoomOnce_ring {w : Work} {e : Entry} {es : List Entry}
    (h : w.lane.run.ring.window = e :: es) :
    (makeRoomOnce w).lane.run.ring = w.lane.run.ring.passToTail e es := by
  rw [makeRoomOnce_eq, depart_ring (by rw [Work.freed_ring, h]), Work.freed_ring]

/-- What the steps of making room leave in the tail and the window. -/
theorem iterate_makeRoomOnce_lengths {w : Work} (ht : w.lane.run.ring.tail.length ≤ 8) (n : Nat)
    (hn : n ≤ w.lane.run.ring.window.length) :
    (makeRoomOnce^[n] w).lane.run.ring.tail.length = min (w.lane.run.ring.tail.length + n) 8 ∧
      (makeRoomOnce^[n] w).lane.run.ring.window.length = w.lane.run.ring.window.length - n := by
  induction n with
  | zero => exact ⟨by simp [ht], rfl⟩
  | succ n ih =>
    obtain ⟨htail, hwindow⟩ := ih (by omega)
    rw [Function.iterate_succ_apply']
    cases hw : (makeRoomOnce^[n] w).lane.run.ring.window with
    | nil =>
      rw [hw, List.length_nil] at hwindow
      omega
    | cons e es =>
      rw [makeRoomOnce_ring hw, Ring.passToTail_tail_length e es (by omega), htail]
      rw [hw, List.length_cons] at hwindow
      refine ⟨by omega, ?_⟩
      show es.length = _
      omega

/-- Room is made until the ring is not full: as many steps as it takes, when the bound allows them (R58,
R59). -/
theorem makeRoom_eq_iterate {m n : Nat} {w : Work} (hm : m ≤ n)
    (hfull : ∀ k < m, 2048 ≤ (makeRoomOnce^[k] w).lane.run.ring.fill)
    (hroom : (makeRoomOnce^[m] w).lane.run.ring.fill < 2048) :
    makeRoom n w = makeRoomOnce^[m] w := by
  induction m generalizing n w with
  | zero =>
    cases n with
    | zero => rfl
    | succ n => exact if_pos hroom
  | succ m ih =>
    obtain ⟨n, rfl⟩ : ∃ k, n = k + 1 := ⟨n - 1, by omega⟩
    have hnow := hfull 0 (by omega)
    have hnot : ¬w.lane.run.ring.fill < Config.ringCapacity := Nat.not_lt.2 hnow
    rw [makeRoom, if_neg hnot]
    exact ih (by omega) (fun k hk => hfull (k + 1) (by omega)) hroom

/-- A full ring of t tail entries takes 9 − t steps of making room, which leave 2,047 entries (R58, R59). -/
theorem makeRoom_full {w : Work} (ht : w.lane.run.ring.tail.length ≤ 8)
    (hf : w.lane.run.ring.fill = 2048) :
    makeRoom w.lane.run.ring.window.length w =
        makeRoomOnce^[9 - w.lane.run.ring.tail.length] w ∧
      (makeRoomOnce^[9 - w.lane.run.ring.tail.length] w).lane.run.ring.fill = 2047 := by
  have hfill : w.lane.run.ring.tail.length + w.lane.run.ring.window.length = 2048 := hf
  have hafter (k : Nat) (hk : k ≤ 9 - w.lane.run.ring.tail.length) :
      (makeRoomOnce^[k] w).lane.run.ring.fill =
        min (w.lane.run.ring.tail.length + k) 8 + (w.lane.run.ring.window.length - k) := by
    obtain ⟨htail, hwindow⟩ := iterate_makeRoomOnce_lengths ht k (by omega)
    rw [Ring.fill, htail, hwindow]
  have hlast := hafter _ le_rfl
  refine ⟨makeRoom_eq_iterate (by omega) (fun k hk => ?_) (by omega), by omega⟩
  have := hafter k hk.le
  omega

/-- A ring that is not full makes no room (R49). -/
theorem makeRoom_of_room {w : Work} (h : w.lane.run.ring.fill < 2048) (n : Nat) :
    makeRoom n w = w := makeRoom_eq_iterate (Nat.zero_le n) (by simp) h

/-- Making room leaves fewer than 2,048 entries (R49). -/
theorem makeRoom_fill {w : Work} (ht : w.lane.run.ring.tail.length ≤ 8)
    (hf : w.lane.run.ring.fill ≤ 2048) :
    (makeRoom w.lane.run.ring.window.length w).lane.run.ring.fill < 2048 := by
  rcases Nat.lt_or_eq_of_le hf with hlt | heq
  · rwa [makeRoom_of_room hlt]
  · obtain ⟨he, hfill⟩ := makeRoom_full ht heq
    rw [he, hfill]
    decide

/-- Making room keeps what each of its steps keeps at a full ring. -/
theorem makeRoom_induction {P : Work → Prop} (n : Nat) {w : Work} (h : P w)
    (hstep : ∀ v : Work, P v → 2048 ≤ v.lane.run.ring.fill → P (makeRoomOnce v)) :
    P (makeRoom n w) := by
  induction n generalizing w with
  | zero => exact h
  | succ n ih =>
    unfold makeRoom
    split
    case isTrue => exact h
    case isFalse hfull => exact ih (hstep w h (Nat.not_lt.1 hfull))

/-! ### The examination leaves the positions -/

/-- From w to w' the tail stays, and the window's entries stay at their positions. -/
def Work.KeepsPlaces (w w' : Work) : Prop :=
  w'.lane.run.ring.tail = w.lane.run.ring.tail ∧
    w'.lane.run.ring.window.map (·.pos) = w.lane.run.ring.window.map (·.pos)

theorem Work.KeepsPlaces.of_ring {w w' : Work} (h : w'.lane.run.ring = w.lane.run.ring) :
    w.KeepsPlaces w' := by
  unfold KeepsPlaces; rw [h]; exact ⟨rfl, rfl⟩

theorem Work.KeepsPlaces.trans {a b c : Work} (h : a.KeepsPlaces b) (k : b.KeepsPlaces c) :
    a.KeepsPlaces c := by
  obtain ⟨ht, hw⟩ := h
  obtain ⟨kt, kw⟩ := k
  exact ⟨kt.trans ht, kw.trans hw⟩

theorem Work.KeepsPlaces.upTo {w w' : Work} {N : Pos} (h : w.KeepsPlaces w')
    (k : w.lane.run.ring.UpTo N) : w'.lane.run.ring.UpTo N := by
  obtain ⟨ht, hw⟩ := h
  exact k.of_positions (by rw [ht]) hw

@[simp] theorem Entry.cover_pos (r : DefectRecord) (e : Entry) : (e.cover r).pos = e.pos := by
  unfold cover; split <;> rfl

theorem keepsPlaces_cover {w : Work} {run : Run} (r : DefectRecord) (h : run.ring = w.lane.run.ring) :
    w.KeepsPlaces (w.setRun (run.cover r)) := by
  simp [Work.KeepsPlaces, Run.cover, h]

theorem dropRecord_places (w : Work) : w.KeepsPlaces (dropRecord w) := by
  rw [dropRecord_eq]
  exact .of_ring rfl

theorem openRecord_places (w : Work) (a b : Pos) (c : Causes) (p : Nat) (t : Nat × Nat) :
    w.KeepsPlaces (openRecord w a b c p t) := by
  unfold openRecord
  dsimp only
  split
  · exact dropRecord_places w
  · exact keepsPlaces_cover _ rfl

theorem openAt_places (w : Work) (n : Entry) (b : Bool) (m : Measures) (d : Demand) :
    w.KeepsPlaces (openAt w n b m d) := by
  unfold openAt
  dsimp only
  split
  · exact .of_ring rfl
  · exact openRecord_places _ _ _ _ _ _

theorem openRemainder_places (w : Work) (n : Entry) (p : Pos) (d : Demand) :
    w.KeepsPlaces (openRemainder w n p d) := by
  unfold openRemainder
  split
  · exact openRecord_places _ _ _ _ _ _
  · exact .of_ring rfl

theorem extendRecord_places (w : Work) (r : DefectRecord) (n : Entry) (m : Measures) (d : Demand) :
    w.KeepsPlaces (extendRecord w r n m d) := by
  have hput (r' : DefectRecord) (det : Detector) :
      w.KeepsPlaces (w.setRun (Run.putRecord { w.lane.run with detector := det } r')) :=
    keepsPlaces_cover r' rfl
  have hclose (r' : DefectRecord) (det : Detector) : w.KeepsPlaces (w.setRun
      ((Run.putRecord { w.lane.run with detector := det } r').close r' .long)) :=
    (hput r' det).trans (.of_ring rfl)
  unfold extendRecord
  dsimp only
  split
  · split
    · exact (hclose _ _).trans (openAt_places _ _ _ _ _)
    · exact (hclose _ _).trans (openRemainder_places _ _ _ _)
  · exact hput _ _

theorem recordActions_places (w : Work) (n : Entry) (m : Measures) (d : Demand) :
    w.KeepsPlaces (recordActions w n m d) := by
  unfold recordActions
  split
  · split
    · exact extendRecord_places _ _ _ _ _
    · exact .of_ring rfl
  · exact openAt_places _ _ _ _ _

@[simp] theorem closingTest_ring (w : Work) (n : Pos) :
    (closingTest w n).lane.run.ring = w.lane.run.ring := by
  unfold closingTest
  split
  · split <;> rfl
  · rfl

/-- The work of an examination after its count of the settling (R83). -/
def Work.settled (w : Work) : Work :=
  w.setRun { w.lane.run with
    detector := { w.lane.run.detector with settle := w.lane.run.detector.settle - 1 } }

@[simp] theorem Detector.learn_lastEnd (d : Detector) (m : Measures) :
    (d.learn m).lastEnd = d.lastEnd := by
  unfold learn; dsimp only; split <;> split <;> rfl

@[simp] theorem Detector.learn_nextId (d : Detector) (m : Measures) :
    (d.learn m).nextId = d.nextId := by
  unfold learn; dsimp only; split <;> split <;> rfl

/-- An examination by its steps: the record actions, the closing test, and what the detector learns, which
changes neither the last end nor the next id (R83). -/
theorem examineEntry_eq (w : Work) (n : Entry) :
    ∃ (m : Measures) (c : Causes) (v : Work) (det : Detector),
      v = closingTest (recordActions w.settled n m (demandOf w.settled.lane c m n)) n.pos ∧
      examineEntry w n = v.setRun { v.lane.run with detector := det } ∧
      det.lastEnd = v.lane.run.detector.lastEnd ∧ det.nextId = v.lane.run.detector.nextId := by
  refine ⟨_, _, _, _, rfl, rfl, ?_, ?_⟩
  · split
    · rfl
    · exact Detector.learn_lastEnd _ _
  · split
    · rfl
    · exact Detector.learn_nextId _ _

/-- An examination covers entries, and moves none (R83, R91). -/
theorem examine_places (w : Work) (n : Entry) : w.KeepsPlaces (examine w n) := by
  unfold examine
  split
  · exact .of_ring rfl
  · obtain ⟨m, c, v, det, rfl, he, -⟩ := examineEntry_eq w n
    have hsettled : w.KeepsPlaces w.settled := .of_ring rfl
    rw [he]
    exact (hsettled.trans (recordActions_places _ n m _)).trans (.of_ring (closingTest_ring _ _))

/-! ### The ring through an entry event -/

section Events

variable {w : Work} {N : Pos} (h : w.lane.run.ring.UpTo N)
include h

theorem depart_upTo : (depart w).lane.run.ring.UpTo N := by
  cases hw : w.lane.run.ring.window with
  | nil => rwa [depart_of_empty hw]
  | cons e es => rw [depart_ring hw]; exact h.passToTail hw

theorem departureTest_upTo : (departureTest w).lane.run.ring.UpTo N :=
  departureTest_induction (P := fun v => v.lane.run.ring.UpTo N) h fun _ hv _ => depart_upTo hv

theorem makeRoom_upTo (n : Nat) : (makeRoom n w).lane.run.ring.UpTo N :=
  makeRoom_induction (P := fun v => v.lane.run.ring.UpTo N) n h fun v hv _ => by
    rw [makeRoomOnce_eq]
    exact depart_upTo (by rwa [Work.freed_ring])

end Events

@[simp] theorem indexOutput_ring (w : Work) (o : Output) :
    (indexOutput w o).lane.run.ring = w.lane.run.ring := by
  unfold indexOutput
  dsimp only
  split <;> rfl

@[simp] theorem placeEntry_ring (w : Work) (e : Entry) :
    (placeEntry w e).lane.run.ring =
      { w.lane.run.ring with window := w.lane.run.ring.window ++ [e] } := by
  simp [placeEntry]

/-- The entry event of the output at N carries the ring on to N + 1 (R47, R49). -/
theorem entryEvent_upTo {w : Work} {o : Output} (h : w.lane.run.ring.UpTo o.pos) :
    (entryEvent w o).lane.run.ring.UpTo (o.pos + 1) := by
  have hindex : (indexOutput w o).lane.run.ring.UpTo o.pos := by rwa [indexOutput_ring]
  have hplace : ∀ e : Entry, e.pos = o.pos →
      (placeEntry (makeRoom (indexOutput w o).lane.run.ring.window.length (indexOutput w o)) e).lane.run.ring.UpTo
        (o.pos + 1) := fun e he => by
    rw [placeEntry_ring]
    exact (makeRoom_upTo hindex _).place (makeRoom_fill hindex.tail_le hindex.fill_le) he
  exact departureTest_upTo ((examine_places _ _).upTo (hplace _ rfl))

theorem onSignalLost_upTo {w : Work} {N : Pos} (h : w.lane.run.ring.UpTo N) :
    (onSignalLost w).lane.run.ring.UpTo N := by
  cases hr : w.lane.run.queue.openRecord with
  | none => rwa [onSignalLost_none hr]
  | some r => rw [onSignalLost_some hr]; exact departureTest_upTo h

/-! ### An invariant of the history through a lane's event -/

/-- From l to l' a lane keeps what the ring and the records speak of: the lane's state and parameters, the
ring, the queue, the last end, the next id and the next output's position. -/
structure Lane.SameHistory (l l' : Lane) : Prop where
  state : l'.state = l.state
  params : l'.params = l.params
  ring : l'.run.ring = l.run.ring
  queue : l'.run.queue = l.run.queue
  lastEnd : l'.run.detector.lastEnd = l.run.detector.lastEnd
  nextId : l'.run.detector.nextId = l.run.detector.nextId
  nextPos : l'.run.resampler.nextPos = l.run.resampler.nextPos

theorem Lane.SameHistory.refl (l : Lane) : l.SameHistory l := ⟨rfl, rfl, rfl, rfl, rfl, rfl, rfl⟩

/-- An invariant that only the history matters to, and that an output and a loss of signal keep. -/
structure KeptInEvents (P : Lane → Prop) : Prop where
  same : ∀ {l l' : Lane}, P l → l.SameHistory l' → P l'
  output : ∀ (p q : PrevInstant) (w : Work), P w.lane → P (produce p q w).lane
  lost : ∀ w : Work, P w.lane → P (onSignalLost w).lane

section Kept

variable {P : Lane → Prop} (hP : KeptInEvents P)
include hP

theorem KeptInEvents.count {w : Work} (h : P w.lane) (f : Report → Report) : P (w.count f).lane :=
  hP.same h ⟨by simp, by simp, by simp, by simp, by simp, by simp, by simp⟩

theorem KeptInEvents.resampleInstant {w : Work} (h : P w.lane) (next : PrevInstant) (b : Bool) :
    P (resampleInstant next b w).lane := by
  have hsplice : P (w.withSplice next.index b).lane := hP.same h ⟨rfl, rfl, rfl, rfl, rfl, rfl, rfl⟩
  cases hp : w.lane.run.resampler.prev with
  | none =>
    rw [resampleInstant_first hp]
    exact hP.same hsplice ⟨rfl, rfl, rfl, rfl, rfl, rfl, rfl⟩
  | some p =>
    obtain ⟨n, -, hn, -⟩ := produceUpTo_eq p next 21 (w.withSplice next.index b)
    rw [resampleInstant_later hp, hn]
    have houtputs (n : Nat) : P ((produce p next)^[n] (w.withSplice next.index b)).lane := by
      induction n with
      | zero => exact hsplice
      | succ n ih => rw [Function.iterate_succ_apply']; exact hP.output p next _ ih
    exact hP.same (houtputs n) ⟨rfl, rfl, rfl, rfl, rfl, rfl, rfl⟩

theorem KeptInEvents.watched {w : Work} (h : P w.lane) (q : Quality) : P (w.watched q).lane := by
  have hfront (f : FrontEnd) : P (w.setFront f).lane := hP.same h ⟨rfl, rfl, rfl, rfl, rfl, rfl, rfl⟩
  unfold Work.watched watchSignal
  dsimp only
  split
  · exact hP.lost _ (hfront _)
  · exact hP.same (hfront (w.lane.front.watch q)) ⟨rfl, rfl, rfl, rfl, rfl, rfl, rfl⟩
  · exact hfront _

theorem KeptInEvents.completeInstant {w : Work} (h : P w.lane) (x : Int) (hv : Option Halves)
    (q : Quality) (es : List EdgeKind) : P (completeInstant x hv q es w).lane := by
  rw [completeInstant_eq x hv q es (v := w.watched q) rfl]
  refine hP.resampleInstant (hP.same (hP.watched h q) ?_) _ _
  have ht := trackStage_onlyTracked w.lane.front.nextIndex (es.count .perf)
    (w.watched q).lane.run.tracker.e (w.watched q)
  have hk := (trackInstant_keeps w.lane.front.nextIndex (es.count .perf) (w.watched q)).trans
    (restep_keeps _ (w.watched q).lane.run.tracker.e)
  constructor
  · exact hk.state
  · exact hk.params
  all_goals rw [ht.run]

theorem KeptInEvents.completeSensor {w : Work} (h : P w.lane) (x : Int) (hv : Option Halves)
    (q : Quality) : P (completeSensor x hv q w).lane := by
  refine hP.completeInstant (w := w.setFront _) ?_ x hv q _
  exact hP.same h ⟨rfl, rfl, rfl, rfl, rfl, rfl, rfl⟩

theorem KeptInEvents.takeWord {w : Work} (h : P w.lane) (f : SensorFields) :
    P (takeWord f w).lane := by
  have hfront (g : FrontEnd) : P (w.setFront g).lane := hP.same h ⟨rfl, rfl, rfl, rfl, rfl, rfl, rfl⟩
  unfold Machine.takeWord
  split
  · split
    · unfold takeDual
      split
      · exact hfront _
      · exact hP.count (hfront _) _
      · exact hP.completeSensor (hfront _) _ _ _
      · exact hP.count h _
    · exact hP.completeSensor h _ _ _
  · exact h

theorem KeptInEvents.takeEdge {w : Work} (h : P w.lane) (k : EdgeKind) : P (takeEdge k w).lane := by
  unfold Machine.takeEdge
  split
  · exact hP.same h ⟨rfl, rfl, rfl, rfl, rfl, rfl, rfl⟩
  · exact h

theorem KeptInEvents.generateInstant {w : Work} (h : P w.lane) : P (generateInstant w).lane := by
  unfold Machine.generateInstant
  split
  · refine hP.completeInstant (w := w.setRun _) ?_ _ _ _ _
    exact hP.same h ⟨rfl, rfl, rfl, rfl, rfl, rfl, rfl⟩
  · exact h

theorem KeptInEvents.notice {w : Work} (h : P w.lane) (id : LaneId) :
    P (formLaneNotice id w).lane := by
  unfold formLaneNotice
  split
  · exact hP.same h ⟨rfl, rfl, rfl, rfl, rfl, rfl, rfl⟩
  · exact h

end Kept

/-- What a step makes of every lane, from what its row makes of the lane. -/
theorem step_eachLane {P Q : Lane → Prop} (hreset : Q Lane.reset) (hsame : ∀ l, P l → Q l)
    (hrow : ∀ w v : Work, w.ByRow v → P w.lane → Q v.lane) {s t : State} (h : s.EachLane P)
    (hstep : step s = .next t) : t.EachLane Q := by
  unfold step at hstep
  split at hstep
  · cases hstep
    intro i
    unfold idleTick
    split <;> exact hsame _ (h i)
  · rcases exec_lanes hstep with hl | hl
    · exact fun i => hl i ▸ hreset
    · intro i
      obtain ⟨v, hv, he⟩ := hl i
      exact he ▸ hrow _ v hv (h i)

/-! ### The ring through every row -/

theorem ringOk_keptInEvents : KeptInEvents Lane.RingOk where
  same h k := by
    rw [Lane.ringOk_iff] at h ⊢
    rwa [k.ring, k.nextPos]
  output p q w h := by
    rw [Lane.ringOk_iff, produce_resampler]
    exact entryEvent_upTo (o := outputAt w.lane p q) (w := w.setRun _) (Lane.ringOk_iff.1 h)
  lost w h := by
    rw [Lane.ringOk_iff, (onSignalLost_keeps w).2.resampler]
    exact onSignalLost_upTo (Lane.ringOk_iff.1 h)

/-- A parameter write leaves of the run all but the reducer's floor (R133, R164). -/
theorem Lane.writeParam_run (l : Lane) (p : Param) (v : Int) :
    (l.writeParam p v).run = { l.run with hiss := (l.writeParam p v).run.hiss } := by
  unfold writeParam consequences
  split
  case h_5 => split <;> rfl
  all_goals rfl

@[simp] theorem Entry.repair_pos (r : DefectRecord) (vs : List Int) (e : Entry) :
    (e.repair r vs).pos = e.pos := by
  unfold repair; split <;> rfl

/-- A write-back puts values in the window, and moves no entry (R118). -/
theorem writeBackLane_upTo {w : Work} {N : Pos} (h : w.lane.run.ring.UpTo N) (b : BankId) (j : Job)
    (rs : List Int) : (writeBackLane b j rs w).lane.run.ring.UpTo N := by
  unfold writeBackLane
  split
  · exact departureTest_upTo (h.of_positions rfl (by simp))
  · exact h

theorem Lane.ringOk_of_empty {l : Lane} (h : l.run.ring = ⟨[], []⟩) : l.RingOk := by
  rw [ringOk_iff, h]
  exact Ring.upTo_empty _

theorem stopEffects_ring (w : Work) : (stopEffects w).lane.run.ring = ⟨[], []⟩ := by
  obtain ⟨a, b, latch, hl, -⟩ := stopEffects_lane w
  rw [hl]
  rfl

/-- No row takes a ring out of its bounds or its positions out of order (R47, R55). -/
theorem Work.ByRow.ringOk {w v : Work} (h : w.ByRow v) (ok : w.lane.RingOk) : v.lane.RingOk := by
  have same {l : Lane} (hr : l.run.ring = w.lane.run.ring)
      (hn : l.run.resampler = w.lane.run.resampler) : l.RingOk := by
    rw [Lane.ringOk_iff, hr, hn, ← Lane.ringOk_iff]
    exact ok
  cases h with
  | unchanged => exact ok
  | start _ => exact Lane.ringOk_of_empty rfl
  | stop _ => exact Lane.ringOk_of_empty (stopEffects_ring w)
  | reset =>
    by_cases hr : w.lane.state = .running
    · rw [resetLaneEffects_running hr]
      exact Lane.ringOk_of_empty (stopEffects_ring w)
    · rw [resetLaneEffects_notRunning hr]
      exact same rfl rfl
  | setParam p v hp =>
    have hring : (w.lane.writeParam p v).run.ring = w.lane.run.ring := by rw [Lane.writeParam_run]
    have hres : (w.lane.writeParam p v).run.resampler = w.lane.run.resampler := by
      rw [Lane.writeParam_run]
    exact same hring hres
  | writeTable t first vs _ _ => cases t <;> exact same rfl rfl
  | enable _ | disable _ | toDefaults _ | setMask _ | load _ _ _ _ | startRepair _ _ _ _ _ =>
    exact same rfl rfl
  | loadSegment i _ _ _ | unload i _ _ | requestEnd i _ _ _ _ _ | collect i _ _ _ _ =>
    cases i <;> exact same rfl rfl
  | word f => exact ringOk_keptInEvents.takeWord ok f
  | edge k => exact ringOk_keptInEvents.takeEdge ok k
  | generate => exact ringOk_keptInEvents.generateInstant ok
  | notice id => exact ringOk_keptInEvents.notice ok id
  | writeBack b j rs =>
    rw [Lane.ringOk_iff, (writeBackLane_keeps b j rs w).2.resampler]
    exact writeBackLane_upTo (Lane.ringOk_iff.1 ok) b j rs

end Sys2Proof.Machine

namespace Sys2Proof.Settled

open Sys2Proof.Machine

/-- Settles O34: every row keeps the ring's bounds and positions. -/
theorem ringStaysBounded : Obligations.RingStaysBounded :=
  fun _ _ h hstep => step_keeps_eachLane (Lane.ringOk_of_empty rfl) (fun _ _ hrow => hrow.ringOk) h hstep

end Sys2Proof.Settled

/-! # The order of a lane's records

The records' spans told by their distances from the next output's position, and every block of a lane's
event on them. Settles O47. -/

namespace Sys2Proof.Machine

/-! ### Distances of positions -/

theorem posDiff_self (p : Pos) : posDiff p p = 0 := by simp [posDiff]

theorem posDiff_inj {p q N : Pos} (h : posDiff p N = posDiff q N) : p = q := by
  have hsub : p - N = q - N := BitVec.eq_of_toInt_eq h
  simpa using congrArg (· + N) hsub

/-- Distances from a common position subtract, within half the circle. -/
theorem posDiff_eq_sub {p q : Pos} (N : Pos) (hlow : -2147483648 ≤ posDiff p N - posDiff q N)
    (hhigh : posDiff p N - posDiff q N < 2147483648) :
    posDiff p q = posDiff p N - posDiff q N := by
  have hsub : p - q = (p - N) - (q - N) := by ring
  rw [posDiff, hsub, BitVec.toInt_sub]
  exact Int.bmod_eq_of_le (le_trans (by decide) hlow) (hhigh.trans_le (by decide))

/-- The distance of a position advanced. -/
theorem posDiff_posAdd {p N : Pos} {k : Int} (hlow : -2147483648 ≤ posDiff p N + k)
    (hhigh : posDiff p N + k < 2147483648) : posDiff (posAdd p k) N = posDiff p N + k := by
  have hadd : posAdd p k - N = (p - N) + BitVec.ofInt 32 k := by unfold posAdd; ring
  rw [posDiff, hadd, BitVec.toInt_add, BitVec.toInt_ofInt, Int.add_bmod_bmod]
  exact Int.bmod_eq_of_le (le_trans (by decide) hlow) (hhigh.trans_le (by decide))

theorem posAdd_one (p : Pos) : posAdd p 1 = p + 1 := rfl

/-- The same from one position further on. -/
theorem posDiff_next {p N : Pos} (hlow : -65536 ≤ posDiff p N) (hhigh : posDiff p N ≤ 65536) :
    posDiff p (N + 1) = posDiff p N - 1 := by
  have hone : posDiff (N + 1) N = 1 := by
    have : N + 1 - N = 1 := by ring
    rw [posDiff, this]
    decide
  rw [posDiff_eq_sub N (by omega) (by omega), hone]

/-- The difference of two positions as a number is their distance, when that is not negative. -/
theorem toNat_sub_eq {p q : Pos} (h : 0 ≤ posDiff p q) : ((p - q).toNat : Int) = posDiff p q := by
  unfold posDiff at *
  rw [BitVec.toInt_eq_toNat_cond] at *
  have := (p - q).isLt
  split_ifs at * <;> omega

/-- A position lies in a span when its distance lies between those of the span's ends. -/
theorem inSpan_iff {start stop p : Pos} (N : Pos) (hspan : posDiff start N ≤ posDiff stop N)
    (hlow : -65536 ≤ posDiff start N) (hhigh : posDiff stop N ≤ 65536)
    (hp : -65536 ≤ posDiff p N) (hp' : posDiff p N ≤ 65536) :
    inSpan start stop p = true ↔ posDiff start N ≤ posDiff p N ∧ posDiff p N ≤ posDiff stop N := by
  have hfrom : posDiff p start = posDiff p N - posDiff start N := posDiff_eq_sub N (by omega) (by omega)
  have hlength : posDiff stop start = posDiff stop N - posDiff start N :=
    posDiff_eq_sub N (by omega) (by omega)
  rw [inSpan, decide_eq_true_iff]
  unfold posDiff at *
  rw [BitVec.toInt_eq_toNat_cond (p - start)] at hfrom
  rw [BitVec.toInt_eq_toNat_cond (stop - start)] at hlength
  have := (p - start).isLt
  have := (stop - start).isLt
  split_ifs at hfrom hlength <;> omega

/-- Consecutive numbers that end just before N, said one by one. -/
theorem isChain_succ_iff {k : Nat} (l : List (BitVec k)) (N : BitVec k) :
    (l ++ [N]).IsChain (fun a b => b = a + 1) ↔
      l = (List.range l.length).map fun i => N - BitVec.ofNat k (l.length - i) := by
  induction l with
  | nil => simp
  | cons a l ih =>
    have hshift : (List.range (a :: l).length).map (fun i => N - BitVec.ofNat k ((a :: l).length - i)) =
        (N - BitVec.ofNat k (l.length + 1)) ::
          (List.range l.length).map fun i => N - BitVec.ofNat k (l.length - i) := by
      simp [List.range_succ_eq_map, Function.comp_def]
    rw [hshift, List.cons.injEq, ← ih]
    cases l with
    | nil => simp [eq_sub_iff_add_eq, eq_comm]
    | cons b l =>
      simp only [List.cons_append, List.isChain_cons_cons]
      refine and_congr_left fun htail => ?_
      have hb : b = N - BitVec.ofNat k (l.length + 1) := by
        have hhead := congrArg List.head? (ih.1 htail)
        simpa [List.range_succ_eq_map] using hhead
      have hlen : BitVec.ofNat k ((b :: l).length + 1) = BitVec.ofNat k (l.length + 1) + 1 := by
        rw [List.length_cons, BitVec.ofNat_add]
        rfl
      rw [hlen, hb, ← sub_sub, eq_sub_iff_add_eq]
      exact eq_comm

/-- An entry of a window of consecutive positions lies less than the window's length before N. -/
theorem Ring.UpTo.window_posDiff {N : Pos} {g : Ring} (h : g.UpTo N) {i : Nat}
    (hi : i < g.window.length) : posDiff g.window[i].pos N = (i : Int) - g.window.length := by
  have hfill := h.fill_le
  unfold fill at hfill
  have hchain : (g.window.map (·.pos) ++ [N]).IsChain fun a b => b = a + 1 :=
    h.chain.suffix ⟨g.tail.map (·.pos), by simp [positions]⟩
  have hpos := congrArg (·[i]?) ((isChain_succ_iff _ _).1 hchain)
  simp only [List.getElem?_map, List.length_map, List.getElem?_eq_getElem hi, List.getElem?_range hi,
    Option.map_some, Option.some.injEq] at hpos
  have hoff : N - BitVec.ofNat 32 (g.window.length - i) =
      posAdd N ((i : Int) - g.window.length) := by
    unfold posAdd
    have : (i : Int) - g.window.length = -((g.window.length - i : Nat) : Int) := by omega
    rw [this, BitVec.ofInt_neg, BitVec.ofInt_natCast, sub_eq_add_neg]
  rw [hpos, hoff, posDiff_posAdd (by rw [posDiff_self]; omega) (by rw [posDiff_self]; omega),
    posDiff_self, zero_add]

/-- Where the entries of a window lie. -/
theorem Ring.UpTo.posDiff_of_mem {N : Pos} {g : Ring} (h : g.UpTo N) {e : Entry} (he : e ∈ g.window) :
    -(g.window.length : Int) ≤ posDiff e.pos N ∧ posDiff e.pos N ≤ -1 := by
  obtain ⟨i, hi, rfl⟩ := List.getElem_of_mem he
  rw [h.window_posDiff hi]
  omega

theorem Ring.UpTo.posDiff_oldest {N : Pos} {g : Ring} (h : g.UpTo N) {e : Entry} {es : List Entry}
    (hw : g.window = e :: es) : posDiff e.pos N = -(g.window.length : Int) := by
  have hi : 0 < g.window.length := by simp [hw]
  have := h.window_posDiff hi
  simp only [hw, List.getElem_cons_zero] at this
  simpa [hw] using this

/-! ### The records in order -/

/-- A record's span, told from N with W entries in the window: its end in the window or less than 48 beyond
it, at most 1,024 positions, and in the window from its start while it is OPEN (R89, R91, R94). -/
structure DefectRecord.SpanOk (N : Pos) (W : Nat) (r : DefectRecord) : Prop where
  stop_ge : -(W : Int) ≤ posDiff r.stop N
  stop_le : posDiff r.stop N ≤ 47
  start_le : posDiff r.start N ≤ posDiff r.stop N
  short : posDiff r.stop N - posDiff r.start N ≤ 1023
  opened : r.state = .opened → -(W : Int) ≤ posDiff r.start N

/-- The spans of a queue's records rise from N without overlapping, and lie near it (R48, R94). -/
structure DefectQueue.Apart (N : Pos) (q : DefectQueue) : Prop where
  rising : q.records.Pairwise fun a b => posDiff a.stop N < posDiff b.start N
  bounds : ∀ r ∈ q.records,
    -3071 ≤ posDiff r.start N ∧ posDiff r.start N ≤ posDiff r.stop N ∧ posDiff r.stop N ≤ 47

/-- A position near N, as the entries of a window and the next one are. -/
def Near (N p : Pos) : Prop := -65536 ≤ posDiff p N ∧ posDiff p N ≤ 65536

/-- A record's span holds a position, told from N. -/
def DefectRecord.Covers (N : Pos) (r : DefectRecord) (p : Pos) : Prop :=
  posDiff r.start N ≤ posDiff p N ∧ posDiff p N ≤ posDiff r.stop N

section Apart

variable {q : DefectQueue} {N p : Pos} (h : q.Apart N) (hp : Near N p)
include h hp

theorem DefectQueue.Apart.inSpan_iff {r : DefectRecord} (hr : r ∈ q.records) :
    inSpan r.start r.stop p = true ↔ r.Covers N p := by
  obtain ⟨h1, h2, h3⟩ := h.bounds r hr
  exact Machine.inSpan_iff N h2 (by omega) (by omega) hp.1 hp.2

/-- The record whose span holds a position covers it: no other does. -/
theorem DefectQueue.Apart.covering_eq {r : DefectRecord} (hr : r ∈ q.records) (hin : r.Covers N p) :
    q.covering p = some r.id := by
  obtain ⟨pre, post, hsplit⟩ := List.append_of_mem hr
  have hrise := h.rising
  rw [hsplit, List.pairwise_append] at hrise
  obtain ⟨-, -, hbefore⟩ := hrise
  have hpre : pre.find? (fun a => inSpan a.start a.stop p) = none := by
    rw [List.find?_eq_none]
    intro a ha hina
    have hlt := hbefore a ha r (by simp)
    obtain ⟨-, ha'⟩ := (h.inSpan_iff hp (by rw [hsplit]; simp [ha])).1 hina
    exact absurd (hin.1.trans ha') (not_le.2 hlt)
  unfold DefectQueue.covering
  rw [hsplit, List.find?_append, hpre, Option.none_or, List.find?_cons, (h.inSpan_iff hp hr).2 hin]
  rfl

theorem DefectQueue.Apart.covering_eq_none_iff :
    q.covering p = none ↔ ∀ r ∈ q.records, ¬r.Covers N p := by
  unfold DefectQueue.covering
  rw [Option.map_eq_none_iff, List.find?_eq_none]
  exact forall₂_congr fun r hr => not_congr (h.inSpan_iff hp hr)

/-- What covers a position is a record whose span holds it. -/
theorem DefectQueue.Apart.mem_of_covering {id : RecordId} (hc : q.covering p = some id) :
    ∃ r ∈ q.records, r.id = id ∧ r.Covers N p := by
  unfold DefectQueue.covering at hc
  obtain ⟨r, hr, hid⟩ := Option.map_eq_some_iff.1 hc
  have hmem := List.mem_of_find?_eq_some hr
  exact ⟨r, hmem, hid, (h.inSpan_iff hp hmem).1 (by simpa using List.find?_some hr)⟩

end Apart

/-- A list of records in order, told from N with W entries in the window, under the detector's next id and
last end (R89, R90, R94, R97). -/
structure RecordsInOrder (N : Pos) (W : Nat) (rs : List DefectRecord) (nextId : RecordId)
    (lastEnd : Option Pos) : Prop where
  few : rs.length ≤ 32
  closed : ∀ r ∈ rs.dropLast, r.state ≠ .opened
  ids : (rs.map (·.id) ++ [nextId]).IsChain fun a b => b = a + 1
  rising : rs.Pairwise fun a b => posDiff a.stop N < posDiff b.start N
  spans : ∀ r ∈ rs, r.SpanOk N W
  follows : ∀ r ∈ rs, 0 ≤ posDiff r.start N → ∃ a ∈ rs, a.stop + 1 = r.start
  lastEnd : ∀ c ∈ (rs.filter fun r => decide (r.state ≠ .opened)).getLast?, lastEnd = some c.stop

/-- The records and the ring of a run in order, told from N, the position that follows the newest entry,
under LOOKAHEAD D: `Lane.RecordsOk` of a RUNNING lane where N is the next output's position. -/
structure Run.InOrder (D : Int) (N : Pos) (run : Run) : Prop where
  ring : run.ring.UpTo N
  lookahead : run.ring.tail ≠ [] → D ≤ (run.ring.window.length : Int)
  records : RecordsInOrder N run.ring.window.length run.queue.records run.detector.nextId
    run.detector.lastEnd
  links : ∀ e ∈ run.ring.window, e.link = run.queue.covering e.pos

/-- A lane's records are in order when they are so from the next output's position, on a RUNNING lane; a
lane that is not RUNNING holds none. -/
theorem Lane.recordsOk_iff {l : Lane} (hring : l.RingOk) (hfew : l.run.queue.records.length ≤ 32) :
    l.RecordsOk ↔
      (l.state ≠ .running → l.run.queue.records = [] ∧ l.run.ring = ⟨[], []⟩) ∧
        l.run.InOrder (l.params.get .lookahead) l.run.resampler.nextPos := by
  have hids := isChain_succ_iff (l.run.queue.records.map (·.id)) l.run.detector.nextId
  rw [List.length_map] at hids
  constructor
  · rintro ⟨hstate, hlook, hclosed, hid, hrise, hspans, hlast, hlinks⟩
    refine ⟨hstate, ringOk_iff.1 hring, hlook,
      ⟨hfew, hclosed, hids.2 hid, hrise, fun r hr => ?_, fun r hr => ?_, hlast⟩, hlinks⟩
    · obtain ⟨h1, h2, h3, h4, h5, -⟩ := hspans r hr
      exact ⟨h1, h2, h3, h4, h5⟩
    · obtain ⟨-, -, -, -, -, h6⟩ := hspans r hr
      exact h6
  · rintro ⟨hstate, -, hlook, h, hlinks⟩
    refine ⟨hstate, hlook, h.closed, hids.1 h.ids, h.rising, fun r hr => ?_, h.lastEnd, hlinks⟩
    obtain ⟨h1, h2, h3, h4, h5⟩ := h.spans r hr
    exact ⟨h1, h2, h3, h4, h5, h.follows r hr⟩

/-! ### Changes of a list of records -/

theorem RecordsInOrder.nil (N : Pos) (W : Nat) (nextId : RecordId) (lastEnd : Option Pos) :
    RecordsInOrder N W [] nextId lastEnd := by
  constructor <;> simp

/-- From r to r' a record keeps its id and its span. -/
structure DefectRecord.SameSpan (r r' : DefectRecord) : Prop where
  id : r'.id = r.id
  start : r'.start = r.start
  stop : r'.stop = r.stop

section Records

variable {N : Pos} {W : Nat} {rs : List DefectRecord} {nextId : RecordId} {lastEnd : Option Pos}
  (h : RecordsInOrder N W rs nextId lastEnd)
include h

/-- Two records of one id are one. -/
theorem RecordsInOrder.eq_of_id {a b : DefectRecord} (ha : a ∈ rs) (hb : b ∈ rs) (hid : a.id = b.id) :
    a = b := by
  have hfew := h.few
  have hnodup : (rs.map (·.id)).Nodup := by
    rw [(isChain_succ_iff _ _).1 h.ids]
    refine List.nodup_range.map_on fun i hi j hj hij => ?_
    simp only [List.length_map, List.mem_range] at hi hj hij
    have := congrArg BitVec.toNat (sub_right_injective hij)
    simp only [BitVec.toNat_ofNat] at this
    omega
  exact List.inj_on_of_nodup_map hnodup ha hb hid

/-- The OPEN record is the newest (R97). -/
theorem RecordsInOrder.newest_of_opened {r : DefectRecord} (hr : r ∈ rs) (ho : r.state = .opened) :
    ∃ older, rs = older ++ [r] ∧ ∀ a ∈ older, a.state ≠ .opened := by
  have hlast := List.dropLast_append_getLast (List.ne_nil_of_mem hr)
  rw [← hlast, List.mem_append, List.mem_singleton] at hr
  rcases hr with hr | hr
  · exact absurd ho (h.closed r hr)
  · exact ⟨_, hr ▸ hlast.symm, h.closed⟩

/-- Records changed in their places, no closed one opened, stay in order. -/
theorem RecordsInOrder.map {f : DefectRecord → DefectRecord} {lastEnd' : Option Pos}
    (hf : ∀ r ∈ rs, r.SameSpan (f r)) (hopen : ∀ r ∈ rs, (f r).state = .opened → r.state = .opened)
    (hl : ∀ c ∈ ((rs.map f).filter fun r => decide (r.state ≠ .opened)).getLast?,
      lastEnd' = some c.stop) : RecordsInOrder N W (rs.map f) nextId lastEnd' where
  few := by rw [List.length_map]; exact h.few
  closed r hr := by
    rw [← List.map_dropLast] at hr
    obtain ⟨a, ha, rfl⟩ := List.mem_map.1 hr
    exact fun ho => h.closed a ha (hopen a (List.mem_of_mem_dropLast ha) ho)
  ids := by
    have hids : (rs.map f).map (·.id) = rs.map (·.id) := by
      rw [List.map_map]
      exact List.map_congr_left fun r hr => (hf r hr).id
    rw [hids]
    exact h.ids
  rising := by
    rw [List.pairwise_map]
    refine h.rising.imp_of_mem fun {a b} ha hb hab => ?_
    rwa [(hf a ha).stop, (hf b hb).start]
  spans r hr := by
    obtain ⟨a, ha, rfl⟩ := List.mem_map.1 hr
    obtain ⟨-, hstart, hstop⟩ := hf a ha
    obtain ⟨h1, h2, h3, h4, h5⟩ := h.spans a ha
    rw [← hstop] at h1 h2 h3 h4
    rw [← hstart] at h3 h4 h5
    exact ⟨h1, h2, h3, h4, fun ho => h5 (hopen a ha ho)⟩
  follows r hr hstart := by
    obtain ⟨a, ha, rfl⟩ := List.mem_map.1 hr
    rw [(hf a ha).start] at hstart ⊢
    obtain ⟨b, hb, hba⟩ := h.follows a ha hstart
    exact ⟨f b, List.mem_map_of_mem hb, by rw [(hf b hb).stop, hba]⟩
  lastEnd := hl

/-- What a record changed in its place makes of each record. -/
theorem RecordsInOrder.sameSpan_ite {r r' : DefectRecord} (hr : r ∈ rs) (hs : r.SameSpan r') :
    ∀ a ∈ rs, a.SameSpan (if a.id = r'.id then r' else a) := by
  intro a ha
  split
  case isTrue hid => rw [h.eq_of_id ha hr (hid.trans hs.id)]; exact hs
  case isFalse => exact ⟨rfl, rfl, rfl⟩

/-- A record whose state changes between states that are not OPEN, or stays OPEN. -/
theorem RecordsInOrder.restate {r r' : DefectRecord} (hr : r ∈ rs) (hs : r.SameSpan r')
    (ho : r'.state = .opened ↔ r.state = .opened) :
    RecordsInOrder N W (rs.map fun o => if o.id = r'.id then r' else o) nextId lastEnd := by
  have hopen : ∀ a ∈ rs, (if a.id = r'.id then r' else a).state = .opened ↔ a.state = .opened := by
    intro a ha
    split
    case isTrue hid => rw [h.eq_of_id ha hr (hid.trans hs.id)]; exact ho
    case isFalse => exact Iff.rfl
  refine h.map (h.sameSpan_ite hr hs) (fun a ha => (hopen a ha).1) fun c hc => ?_
  have hfilter : rs.filter ((fun r => decide (r.state ≠ .opened)) ∘
      fun o => if o.id = r'.id then r' else o) = rs.filter fun r => decide (r.state ≠ .opened) :=
    List.filter_congr fun a ha => by simp only [Function.comp, ne_eq, hopen a ha]
  rw [List.filter_map, List.getLast?_map, Option.mem_map, hfilter] at hc
  obtain ⟨a, ha, rfl⟩ := hc
  have hmem : a ∈ rs := List.mem_of_mem_filter (List.mem_of_getLast? ha)
  rw [h.lastEnd a ha, (h.sameSpan_ite hr hs a hmem).stop]

/-- The OPEN record closed: it is the newest closed one, and the last end its end (R93). -/
theorem RecordsInOrder.close {r : DefectRecord} (hr : r ∈ rs) (ho : r.state = .opened)
    {st : RecordState} (hst : st ≠ .opened) :
    RecordsInOrder N W (rs.map fun o => if o.id = r.id then { r with state := st } else o) nextId
      (some r.stop) := by
  obtain ⟨older, rfl, -⟩ := h.newest_of_opened hr ho
  have hs : r.SameSpan { r with state := st } := ⟨rfl, rfl, rfl⟩
  refine h.map (f := fun o => if o.id = r.id then { r with state := st } else o)
    (h.sameSpan_ite hr hs) (fun a ha => ?_) fun c hc => ?_
  · split
    case isTrue => exact fun hc => absurd hc hst
    case isFalse => exact id
  · have hlast : ((older ++ [r]).map fun o => if o.id = r.id then { r with state := st } else o).filter
          (fun r => decide (r.state ≠ .opened)) =
        ((older.map fun o => if o.id = r.id then { r with state := st } else o).filter
          fun r => decide (r.state ≠ .opened)) ++ [{ r with state := st }] := by
      simp [hst]
    rw [hlast, List.getLast?_concat, Option.mem_some_iff] at hc
    exact hc ▸ rfl

/-- A record's ends lie near N. -/
theorem RecordsInOrder.bounds (hW : W ≤ 2048) {r : DefectRecord} (hr : r ∈ rs) :
    -3071 ≤ posDiff r.start N ∧ posDiff r.start N ≤ posDiff r.stop N ∧ posDiff r.stop N ≤ 47 := by
  obtain ⟨h1, h2, h3, h4, -⟩ := h.spans r hr
  omega

/-- The entry at N has entered: everything lies one further back. -/
theorem RecordsInOrder.next (hW : W ≤ 2048) : RecordsInOrder (N + 1) (W + 1) rs nextId lastEnd := by
  have hnext {r : DefectRecord} (hr : r ∈ rs) :
      posDiff r.start (N + 1) = posDiff r.start N - 1 ∧ posDiff r.stop (N + 1) = posDiff r.stop N - 1 := by
    obtain ⟨h1, h2, h3⟩ := h.bounds hW hr
    exact ⟨posDiff_next (by omega) (by omega), posDiff_next (by omega) (by omega)⟩
  refine ⟨h.few, h.closed, h.ids, h.rising.imp_of_mem fun {a b} ha hb hab => ?_, fun r hr => ?_,
    fun r hr hstart => h.follows r hr ?_, h.lastEnd⟩
  · obtain ⟨-, hstop⟩ := hnext ha
    obtain ⟨hstart, -⟩ := hnext hb
    omega
  · obtain ⟨hstart, hstop⟩ := hnext hr
    obtain ⟨h1, h2, h3, h4, h5⟩ := h.spans r hr
    exact ⟨by omega, by omega, by omega, by omega, fun ho => by have := h5 ho; omega⟩
  · obtain ⟨hstart', -⟩ := hnext hr
    omega

/-- A record that opens at the next id behind all others, which are closed (R89, R90). -/
theorem RecordsInOrder.append {r : DefectRecord} (hfew : rs.length < 32)
    (hclosed : ∀ a ∈ rs, a.state ≠ .opened) (hid : r.id = nextId) (ho : r.state = .opened)
    (hspan : r.SpanOk N W) (hrise : ∀ a ∈ rs, posDiff a.stop N < posDiff r.start N)
    (hfollow : 0 ≤ posDiff r.start N → ∃ a ∈ rs, a.stop + 1 = r.start) :
    RecordsInOrder N W (rs ++ [r]) (nextId + 1) lastEnd := by
  refine ⟨by simpa using hfew, by simpa using hclosed, ?_, ?_, ?_, ?_, ?_⟩
  · rw [List.map_append, List.map_singleton, hid, List.isChain_append]
    exact ⟨h.ids, .singleton _, by simp⟩
  · rw [List.pairwise_append]
    exact ⟨h.rising, List.pairwise_singleton _ _, by simpa using hrise⟩
  · intro a ha
    rcases List.mem_append.1 ha with ha | ha
    · exact h.spans a ha
    · exact List.mem_singleton.1 ha ▸ hspan
  · intro a ha hstart
    have hfound : ∃ b ∈ rs, b.stop + 1 = a.start := by
      rcases List.mem_append.1 ha with ha | ha
      · exact h.follows a ha hstart
      · obtain rfl := List.mem_singleton.1 ha
        exact hfollow hstart
    obtain ⟨b, hb, hba⟩ := hfound
    exact ⟨b, List.mem_append_left _ hb, hba⟩
  · intro c hc
    exact h.lastEnd c (by simpa [ho] using hc)

end Records

section Newest

variable {N : Pos} {W : Nat} {older : List DefectRecord} {r : DefectRecord} {nextId : RecordId}
  {lastEnd : Option Pos} (h : RecordsInOrder N W (older ++ [r]) nextId lastEnd)
include h

theorem RecordsInOrder.older_before : ∀ a ∈ older, posDiff a.stop N < posDiff r.start N := by
  have hrise := h.rising
  rw [List.pairwise_append] at hrise
  obtain ⟨-, -, hbefore⟩ := hrise
  exact fun a ha => hbefore a ha r (by simp)

/-- A record beyond the window follows one that is not the newest. -/
theorem RecordsInOrder.follows_older (hW : W ≤ 2048) {a : DefectRecord} (ha : a ∈ older ++ [r])
    (hstart : 0 ≤ posDiff a.start N) : ∃ b ∈ older, b.stop + 1 = a.start := by
  obtain ⟨b, hb, hba⟩ := h.follows a ha hstart
  rcases List.mem_append.1 hb with hb' | hb'
  · exact ⟨b, hb', hba⟩
  · obtain ⟨b1, b2, b3⟩ := h.bounds hW hb
    obtain ⟨a1, a2, a3⟩ := h.bounds hW ha
    have hnext : posDiff a.start N = posDiff b.stop N + 1 := by
      rw [← hba, ← posAdd_one, posDiff_posAdd (by omega) (by omega)]
    obtain rfl := List.mem_singleton.1 hb'
    rcases List.mem_append.1 ha with ha' | ha'
    · have := h.older_before a ha'
      omega
    · obtain rfl := List.mem_singleton.1 ha'
      omega

/-- Without its newest record, an OPEN one, a list is in order from that record's id. -/
theorem RecordsInOrder.dropNewest (hW : W ≤ 2048) (ho : r.state = .opened) :
    RecordsInOrder N W older r.id lastEnd ∧ (∀ a ∈ older, a.state ≠ .opened) ∧ older.length < 32 ∧
      nextId = r.id + 1 := by
  have hfew := h.few
  have hclosed := h.closed
  have hrise := h.rising
  have hids := h.ids
  simp only [List.length_append, List.length_singleton] at hfew
  rw [List.dropLast_concat] at hclosed
  rw [List.pairwise_append] at hrise
  rw [List.map_append, List.map_singleton, List.isChain_append] at hids
  obtain ⟨hrise, -, -⟩ := hrise
  obtain ⟨hids, -, hnext⟩ := hids
  refine ⟨⟨by omega, fun a ha => hclosed a (List.mem_of_mem_dropLast ha), hids, hrise,
    fun a ha => h.spans a (by simp [ha]), fun a ha => h.follows_older hW (by simp [ha]), fun c hc => ?_⟩,
    hclosed, by omega, by simpa using hnext⟩
  exact h.lastEnd c (by simpa [ho] using hc)

/-- The OPEN record grown at its end (R92, R94). -/
theorem RecordsInOrder.grow (hW : W ≤ 2048) (ho : r.state = .opened) {r' : DefectRecord}
    (hid : r'.id = r.id) (hstart : r'.start = r.start) (ho' : r'.state = .opened)
    (hspan : r'.SpanOk N W) : RecordsInOrder N W (older ++ [r']) nextId lastEnd := by
  obtain ⟨holder, hclosed, hfew, rfl⟩ := h.dropNewest hW ho
  refine holder.append hfew hclosed hid ho' hspan ?_ ?_
  · rw [hstart]; exact h.older_before
  · rw [hstart]; exact h.follows_older hW (by simp)

/-- Every record ends at or before the newest one's end. -/
theorem RecordsInOrder.stop_le_newest : ∀ a ∈ older ++ [r], posDiff a.stop N ≤ posDiff r.stop N := by
  intro a ha
  rcases List.mem_append.1 ha with ha | ha
  · have := h.older_before a ha
    have := (h.spans r (by simp)).start_le
    omega
  · rw [List.mem_singleton.1 ha]

end Newest

section Oldest

variable {N : Pos} {W : Nat} {rs : List DefectRecord} {nextId : RecordId} {lastEnd : Option Pos}

/-- The oldest window entry departs, and no record ends at it or is OPEN from it on. -/
theorem RecordsInOrder.narrow (h : RecordsInOrder N (W + 1) rs nextId lastEnd)
    (hstop : ∀ r ∈ rs, posDiff r.stop N ≠ -(W + 1 : Nat))
    (hopen : ∀ r ∈ rs, r.state = .opened → posDiff r.start N ≠ -(W + 1 : Nat)) :
    RecordsInOrder N W rs nextId lastEnd := by
  refine ⟨h.few, h.closed, h.ids, h.rising, fun r hr => ?_, h.follows, h.lastEnd⟩
  obtain ⟨h1, h2, h3, h4, h5⟩ := h.spans r hr
  have := hstop r hr
  refine ⟨by omega, h2, h3, h4, fun ho => ?_⟩
  have := h5 ho
  have := hopen r hr ho
  omega

/-- The record that ends at the oldest window entry is the oldest. -/
theorem RecordsInOrder.oldest_of_stop (h : RecordsInOrder N W rs nextId lastEnd) {r : DefectRecord}
    (hr : r ∈ rs) (hstop : posDiff r.stop N = -(W : Int)) : ∃ rest, rs = r :: rest := by
  obtain ⟨pre, post, rfl⟩ := List.append_of_mem hr
  cases pre with
  | nil => exact ⟨post, rfl⟩
  | cons a pre =>
    have hrise := h.rising
    rw [List.pairwise_append] at hrise
    obtain ⟨-, -, hbefore⟩ := hrise
    have hlt := hbefore a (by simp) r (by simp)
    have ha := (h.spans a (by simp)).stop_ge
    have hr' := (h.spans r hr).start_le
    omega

/-- The oldest record retires, a closed one that ends two positions or more before N (R100). -/
theorem RecordsInOrder.retire {r : DefectRecord} {rest : List DefectRecord} (hW : W ≤ 2048)
    (h : RecordsInOrder N W (r :: rest) nextId lastEnd) (ho : r.state ≠ .opened)
    (hstop : posDiff r.stop N < -1) :
    RecordsInOrder N W rest nextId lastEnd ∧ (∀ a ∈ rest, posDiff r.stop N < posDiff a.stop N) ∧
      (r :: rest).filter (fun a => decide (a.id ≠ r.id)) = rest := by
  have hrise := List.pairwise_cons.1 h.rising
  have hfew := h.few
  rw [List.length_cons] at hfew
  refine ⟨⟨by omega, fun a ha => h.closed a ?_, h.ids.tail, hrise.2,
    fun a ha => h.spans a (by simp [ha]), fun a ha hstart => ?_, fun c hc => h.lastEnd c ?_⟩,
    fun a ha => ?_, ?_⟩
  · cases rest with
    | nil => simp at ha
    | cons b rest => simp [ha]
  · obtain ⟨b, hb, hba⟩ := h.follows a (by simp [ha]) hstart
    rcases List.mem_cons.1 hb with rfl | hb
    · obtain ⟨b1, b2, b3⟩ := h.bounds hW (by simp : b ∈ b :: rest)
      have : posDiff a.start N = posDiff b.stop N + 1 := by
        rw [← hba, ← posAdd_one, posDiff_posAdd (by omega) (by omega)]
      omega
    · exact ⟨b, hb, hba⟩
  · rw [List.filter_cons_of_pos (by simpa using ho)]
    exact List.mem_getLast?_cons hc
  · have := hrise.1 a ha
    have := (h.spans a (by simp [ha])).start_le
    omega
  · rw [List.filter_cons_of_neg (by simp), List.filter_eq_self]
    intro a ha
    simp only [ne_eq, decide_eq_true_eq]
    intro hid
    have hsame := h.eq_of_id (by simp [ha] : a ∈ r :: rest) (by simp) hid
    have hlt := hrise.1 a ha
    have := (h.spans a (by simp [ha])).start_le
    rw [hsame] at hlt this
    omega

end Oldest

end Sys2Proof.Machine

namespace Sys2Proof.Machine

/-! ### Changes of a run's records -/

/-- Records changed in their places cover what they covered. -/
theorem covering_map {f : DefectRecord → DefectRecord} {q q' : DefectQueue}
    (hq : q'.records = q.records.map f) (hf : ∀ r ∈ q.records, r.SameSpan (f r)) (p : Pos) :
    q'.covering p = q.covering p := by
  unfold DefectQueue.covering
  rw [hq]
  generalize q.records = rs at hf
  induction rs with
  | nil => rfl
  | cons r rs ih =>
    obtain ⟨hid, hstart, hstop⟩ := hf r (by simp)
    rw [List.map_cons, List.find?_cons, List.find?_cons, hstart, hstop]
    cases inSpan r.start r.stop p
    · exact ih fun a ha => hf a (by simp [ha])
    · exact congrArg some hid

theorem Entry.cover_link (r : DefectRecord) (e : Entry) :
    (e.cover r).link = if e.link.isNone && inSpan r.start r.stop e.pos then some r.id else e.link := by
  unfold cover; split <;> rfl

theorem Ring.UpTo.window_le {N : Pos} {g : Ring} (h : g.UpTo N) : g.window.length ≤ 2048 := by
  have hfill := h.fill_le
  unfold fill at hfill
  omega

theorem Ring.UpTo.near {N : Pos} {g : Ring} (h : g.UpTo N) {e : Entry} (he : e ∈ g.window) :
    Near N e.pos := by
  have hwindow := h.window_le
  obtain ⟨h1, h2⟩ := h.posDiff_of_mem he
  exact ⟨by omega, by omega⟩

section Run

variable {D : Int} {N : Pos} {run run' : Run}

theorem Run.InOrder.apart (h : run.InOrder D N) : run.queue.Apart N :=
  ⟨h.records.rising, fun _ hr => h.records.bounds h.ring.window_le hr⟩

/-- What the order of the records does not speak of may change. -/
theorem Run.InOrder.same (h : run.InOrder D N) (hring : run'.ring = run.ring)
    (hq : run'.queue.records = run.queue.records)
    (hn : run'.detector.nextId = run.detector.nextId)
    (hl : run'.detector.lastEnd = run.detector.lastEnd) : run'.InOrder D N := by
  obtain ⟨h1, h2, h3, h4⟩ := h
  refine ⟨by rwa [hring], by rwa [hring], by rwa [hring, hq, hn, hl], fun e he => ?_⟩
  rw [h4 e (by rwa [hring] at he), DefectQueue.covering, DefectQueue.covering, hq]

/-- A record whose state changes between states that are not OPEN, or stays OPEN. -/
theorem Run.InOrder.restate (h : run.InOrder D N) {r r' : DefectRecord} (hr : r ∈ run.queue.records)
    (hs : r.SameSpan r') (ho : r'.state = .opened ↔ r.state = .opened) (hring : run'.ring = run.ring)
    (hq : run'.queue.records = (run.queue.update r').records)
    (hn : run'.detector.nextId = run.detector.nextId)
    (hl : run'.detector.lastEnd = run.detector.lastEnd) : run'.InOrder D N := by
  have hrecords := h.records.restate hr hs ho
  refine ⟨by rw [hring]; exact h.ring, by rw [hring]; exact h.lookahead,
    by rw [hring, hq, hn, hl]; exact hrecords, fun e he => ?_⟩
  rw [h.links e (by rwa [hring] at he), covering_map hq (h.records.sameSpan_ite hr hs)]

theorem openRecord_mem {q : DefectQueue} {r : DefectRecord} (hr : q.openRecord = some r) :
    r ∈ q.records ∧ r.state = .opened :=
  ⟨List.mem_of_find?_eq_some hr, by simpa using List.find?_some hr⟩

theorem openRecord_eq_none_iff {q : DefectQueue} :
    q.openRecord = none ↔ ∀ r ∈ q.records, r.state ≠ .opened := by
  simp [DefectQueue.openRecord, List.find?_eq_none]

/-- The OPEN record closed (R93, R94, R88). -/
theorem Run.InOrder.close (h : run.InOrder D N) {r : DefectRecord} (hr : r ∈ run.queue.records)
    (ho : r.state = .opened) {st : RecordState} (hst : st ≠ .opened) :
    (run.close r st).InOrder D N ∧ ∀ a ∈ (run.close r st).queue.records, a.state ≠ .opened := by
  have hs : r.SameSpan { r with state := st } := ⟨rfl, rfl, rfl⟩
  refine ⟨⟨h.ring, h.lookahead, h.records.close hr ho hst, fun e he => ?_⟩, fun a ha => ?_⟩
  · rw [h.links e he]
    exact (covering_map rfl (h.records.sameSpan_ite hr hs) e.pos).symm
  · obtain ⟨older, hsplit, hclosed⟩ := h.records.newest_of_opened hr ho
    rcases mem_update ha with rfl | ⟨hmem, hid⟩
    · exact hst
    · rw [hsplit, List.mem_append, List.mem_singleton] at hmem
      rcases hmem with hmem | rfl
      · exact hclosed a hmem
      · exact absurd rfl hid

/-- Where one record r grows or comes anew, and the others keep their spans, covering by r brings the links
of the window up to date (R91). -/
theorem Run.InOrder.cover (h : run.InOrder D N) {q' : DefectQueue} {det : Detector} {r : DefectRecord}
    (hrecords : RecordsInOrder N run.ring.window.length q'.records det.nextId det.lastEnd)
    (hr : r ∈ q'.records)
    (hold : ∀ a ∈ run.queue.records, ∃ a' ∈ q'.records, a'.id = a.id ∧
      posDiff a'.start N ≤ posDiff a.start N ∧ posDiff a.stop N ≤ posDiff a'.stop N)
    (hnew : ∀ a' ∈ q'.records, a' = r ∨ a' ∈ run.queue.records) :
    (Run.cover { run with queue := q', detector := det } r).InOrder D N := by
  have hapart : q'.Apart N := ⟨hrecords.rising, fun _ ha => hrecords.bounds h.ring.window_le ha⟩
  have hlength : (Run.cover { run with queue := q', detector := det } r).ring.window.length =
      run.ring.window.length := List.length_map ..
  refine ⟨h.ring.of_positions rfl (by simp [Run.cover]), by rw [hlength]; exact h.lookahead,
    by rw [hlength]; exact hrecords, fun f hf => ?_⟩
  obtain ⟨e, he, rfl⟩ := List.mem_map.1 hf
  have hnear := h.ring.near he
  rw [Entry.cover_link, Entry.cover_pos, h.links e he]
  show _ = q'.covering e.pos
  cases hc : run.queue.covering e.pos with
  | some id =>
    obtain ⟨a, ha, hid, hin⟩ := h.apart.mem_of_covering hnear hc
    obtain ⟨a', ha', hid', hstart, hstop⟩ := hold a ha
    rw [hapart.covering_eq hnear ha' ⟨hstart.trans hin.1, hin.2.trans hstop⟩, hid', hid]
    rfl
  | none =>
    have hout := (h.apart.covering_eq_none_iff hnear).1 hc
    by_cases hin : inSpan r.start r.stop e.pos = true
    · rw [hapart.covering_eq hnear hr ((hapart.inSpan_iff hnear hr).1 hin)]
      simp [hin]
    · have hnone : q'.covering e.pos = none := by
        rw [hapart.covering_eq_none_iff hnear]
        intro a ha hcov
        rcases hnew a ha with rfl | hmem
        · exact hin ((hapart.inSpan_iff hnear hr).2 hcov)
        · exact hout a hmem hcov
      rw [hnone]
      simp [hin]

/-- The OPEN record grown at its end, and what it has come to include covered (R91, R92). -/
theorem Run.InOrder.grow (h : run.InOrder D N) {r r' : DefectRecord} {det : Detector}
    (hr : r ∈ run.queue.records) (ho : r.state = .opened)
    (hid : r'.id = r.id) (hstart : r'.start = r.start) (ho' : r'.state = .opened)
    (hge : posDiff r.stop N ≤ posDiff r'.stop N) (hspan : r'.SpanOk N run.ring.window.length)
    (hn : det.nextId = run.detector.nextId) (hl : det.lastEnd = run.detector.lastEnd) :
    (Run.putRecord { run with detector := det } r').InOrder D N ∧
      r' ∈ (Run.putRecord { run with detector := det } r').queue.records := by
  obtain ⟨older, hsplit, hclosed⟩ := h.records.newest_of_opened hr ho
  have hrecords := h.records
  rw [hsplit] at hrecords
  have hother : ∀ a ∈ older ++ [], a.id ≠ r.id := fun a ha hc =>
    hclosed a (by simpa using ha) (hrecords.eq_of_id (by simp_all) (by simp) hc ▸ ho)
  have hupdate : (run.queue.update r').records = older ++ [r'] := by
    rw [update_eq (pre := older) (post := []) hsplit hother hid]
  have hr' : r' ∈ (run.queue.update r').records := by rw [hupdate]; simp
  refine ⟨h.cover ?_ hr' (fun a ha => ?_) (fun a ha => ?_), hr'⟩
  · rw [hupdate, hn, hl]
    exact hrecords.grow h.ring.window_le ho hid hstart ho' hspan
  · rw [hsplit, List.mem_append, List.mem_singleton] at ha
    rcases ha with ha | rfl
    · exact ⟨a, by rw [hupdate]; simp [ha], rfl, le_rfl, le_rfl⟩
    · exact ⟨r', hr', hid, by rw [hstart], hge⟩
  · rw [hupdate, List.mem_append, List.mem_singleton] at ha
    rcases ha with ha | rfl
    · exact .inr (by rw [hsplit]; simp [ha])
    · exact .inl rfl

/-- The entry at N placed with the link of the record that covers N (R48, R49). -/
theorem Run.InOrder.place (h : run.InOrder D N) (hf : run.ring.fill < 2048) {e : Entry} (he : e.pos = N)
    (hlink : e.link = run.queue.covering N) (hring : run'.ring =
      { run.ring with window := run.ring.window ++ [e] }) (hq : run'.queue = run.queue)
    (hdet : run'.detector = run.detector) : run'.InOrder D (N + 1) := by
  have hlength : run'.ring.window.length = run.ring.window.length + 1 := by simp [hring]
  refine ⟨by rw [hring]; exact h.ring.place hf he, fun ht => ?_,
    by rw [hlength, hq, hdet]; exact h.records.next h.ring.window_le, fun f hf => ?_⟩
  · have := h.lookahead (by simpa [hring] using ht)
    omega
  · rw [hring, List.mem_append, List.mem_singleton] at hf
    rw [hq]
    rcases hf with hf | rfl
    · exact h.links f hf
    · rw [hlink, he]

end Run

/-! ### Departures -/

/-- The record that covers an entry of the window, by the entry's link. -/
theorem Run.InOrder.recordOf_eq {D : Int} {N : Pos} {run : Run} (h : run.InOrder D N) {e : Entry}
    (he : e ∈ run.ring.window) {r : DefectRecord} (hr : r ∈ run.queue.records)
    (hin : r.Covers N e.pos) : run.recordOf e = some r := by
  have hlink := h.links e he
  rw [h.apart.covering_eq (h.ring.near he) hr hin] at hlink
  rw [Run.recordOf, hlink, Option.bind_some, DefectQueue.find]
  cases hf : run.queue.records.find? fun a => a.id == r.id with
  | none => exact absurd (List.find?_eq_none.1 hf r hr) (by simp)
  | some a =>
    have hid : a.id = r.id := by simpa using List.find?_some hf
    rw [h.records.eq_of_id (List.mem_of_find?_eq_some hf) hr hid]

theorem recordOf_mem {run : Run} {e : Entry} {r : DefectRecord} (hr : run.recordOf e = some r) :
    r ∈ run.queue.records := by
  obtain ⟨id, -, hf⟩ := Option.bind_eq_some_iff.1 hr
  exact List.mem_of_find?_eq_some hf

/-- An entry departs that no OPEN record covers, while enough others are in the window: its record retires
with its last entry, and the order stays (R53, R56). -/
theorem depart_inOrder {w : Work} {D : Int} {N : Pos} {e : Entry} {es : List Entry}
    (h : w.lane.run.InOrder D N) (hw : w.lane.run.ring.window = e :: es)
    (hlook : D ≤ (es.length : Int)) (hmany : 1 ≤ es.length)
    (hfree : ∀ r ∈ w.lane.run.recordOf e, r.state ≠ .opened) : (depart w).lane.run.InOrder D N := by
  have hring := depart_ring hw
  have hqueue := depart_queue hw
  have hoff := h.ring.posDiff_oldest hw
  have hrecords := h.records
  have hwindow := h.ring.window_le
  have hmem : e ∈ w.lane.run.ring.window := by rw [hw]; simp
  have hrest {f : Entry} (hf : f ∈ es) : f ∈ w.lane.run.ring.window := by rw [hw]; simp [hf]
  rw [hw, List.length_cons] at hrecords hoff hwindow
  -- a record that holds the position of the departing entry is the entry's record
  have hcover {r : DefectRecord} (hr : r ∈ w.lane.run.queue.records)
      (hstart : posDiff r.start N ≤ posDiff e.pos N) (hstop : posDiff e.pos N ≤ posDiff r.stop N) :
      w.lane.run.recordOf e = some r := h.recordOf_eq hmem hr ⟨hstart, hstop⟩
  have hopen : ∀ r ∈ w.lane.run.queue.records, r.state = .opened →
      posDiff r.start N ≠ -((es.length : Nat) + 1 : Nat) := fun r hr ho hs =>
    hfree r (hcover hr (by omega) (by have := (h.records.spans r hr).start_le; omega)) ho
  have hlater : ∀ f ∈ es, posDiff e.pos N < posDiff f.pos N := by
    intro f hf
    obtain ⟨i, hi, rfl⟩ := List.getElem_of_mem hf
    have := h.ring.window_posDiff (i := i + 1) (by rw [hw]; simpa using hi)
    simp only [hw, List.getElem_cons_succ, List.length_cons] at this
    omega
  suffices hkey : RecordsInOrder N es.length (depart w).lane.run.queue.records
      w.lane.run.detector.nextId w.lane.run.detector.lastEnd ∧
      ∀ f ∈ es, (depart w).lane.run.queue.covering f.pos = w.lane.run.queue.covering f.pos by
    refine ⟨depart_upTo h.ring, fun _ => ?_, ?_, fun f hf => ?_⟩
    · rw [hring]; exact hlook
    · rw [depart_detector, hring]; exact hkey.1
    · rw [hring] at hf
      rw [h.links f (hrest hf), hkey.2 f hf]
  rw [hqueue]
  by_cases hends : ∃ r ∈ w.lane.run.queue.records, posDiff r.stop N = posDiff e.pos N
  · obtain ⟨r, hr, hstop⟩ := hends
    have hrecord := hcover hr (hstop ▸ (h.records.spans r hr).start_le) hstop.ge
    have hclosed := hfree r hrecord
    obtain ⟨rest, hsplit⟩ := hrecords.oldest_of_stop hr (hstop.trans hoff)
    rw [hrecord]
    have hpos : e.pos = r.stop := posDiff_inj hstop.symm
    simp only [DefectQueue.afterDeparture, if_pos hpos, DefectQueue.remove, hsplit]
    rw [hsplit] at hrecords
    obtain ⟨hrest', hbeyond, hfilter⟩ := hrecords.retire hwindow hclosed (by omega)
    rw [hfilter]
    refine ⟨hrest'.narrow (fun a ha => ?_) (fun a ha => hopen a (by rw [hsplit]; simp [ha])), fun f hf => ?_⟩
    · have := hbeyond a ha
      omega
    · have hnear := h.ring.near (hrest hf)
      have hnot : inSpan r.start r.stop f.pos = false := by
        rw [← Bool.not_eq_true, h.apart.inSpan_iff hnear hr]
        exact fun hin => absurd (hlater f hf) (by have := hin.2; omega)
      simp only [DefectQueue.covering, hsplit, List.find?_cons, hnot]
  · have hsame : w.lane.run.queue.afterDeparture e (w.lane.run.recordOf e) = w.lane.run.queue := by
      cases hr : w.lane.run.recordOf e with
      | none => rfl
      | some r => exact if_neg fun hpos => hends ⟨r, recordOf_mem hr, by rw [hpos]⟩
    rw [hsame]
    exact ⟨hrecords.narrow (fun r hr hs => hends ⟨r, hr, by omega⟩) hopen, fun _ _ => rfl⟩

/-- The departure test keeps the order (R51, R52). -/
theorem departureTest_inOrder {w : Work} {N : Pos} (hD : 1 ≤ w.lane.params.get .lookahead)
    (h : w.lane.run.InOrder (w.lane.params.get .lookahead) N) :
    (departureTest w).lane.run.InOrder (w.lane.params.get .lookahead) N := by
  suffices hkey : (departureTest w).lane.params = w.lane.params ∧
      (departureTest w).lane.run.InOrder (w.lane.params.get .lookahead) N from hkey.2
  refine departureTest_induction (P := fun v => v.lane.params = w.lane.params ∧
    v.lane.run.InOrder (w.lane.params.get .lookahead) N) ⟨rfl, h⟩ ?_
  rintro v ⟨hp, hv⟩ hmay
  obtain ⟨hlong, hfree⟩ := Work.mayDepart_iff.1 hmay
  rw [Work.p, hp] at hlong
  refine ⟨by rw [depart_params, hp], ?_⟩
  cases hw : v.lane.run.ring.window with
  | nil => rw [hw] at hlong; simp at hlong; omega
  | cons e es =>
    rw [hw, List.length_cons] at hlong
    refine depart_inOrder hv hw (by omega) (by omega) fun r hr ho => ?_
    have := Run.held_eq_false_iff.1 hfree e (by rw [hw]; rfl) r hr
    rw [ho] at this
    exact absurd this (by decide)

/-! ### Making room -/

/-- What holds the oldest window entry is its record, unresolved (R58). -/
theorem Run.holder_eq_some {run : Run} {r : DefectRecord} (h : run.holder = some r) :
    ∃ e ∈ run.ring.window.head?, run.recordOf e = some r ∧ r.state.unresolved = true := by
  unfold Run.holder at h
  cases hw : run.ring.window with
  | nil => simp [hw] at h
  | cons e es =>
    simp only [hw, Option.filter_eq_some_iff] at h
    exact ⟨e, rfl, h.1, h.2⟩

theorem Run.holder_eq_none {run : Run} {e : Entry} {es : List Entry} (hw : run.ring.window = e :: es)
    (h : run.holder = none) : ∀ r ∈ run.recordOf e, r.state.unresolved = false := by
  intro r hr
  simp only [Run.holder, hw, Option.filter_eq_none_iff] at h
  simpa using h r hr

theorem Run.abandon_opened {run : Run} {r : DefectRecord} (h : r.state = .opened) :
    run.abandon r = run.close r .abandoned := if_pos h

theorem Run.abandon_closed {run : Run} {r : DefectRecord} (h : r.state ≠ .opened) :
    run.abandon r = { run with queue := run.queue.update { r with state := .abandoned } } := if_neg h

/-- A record made ABANDONED, closed first when it is OPEN, keeps the order (R58). -/
theorem Run.InOrder.abandon {D : Int} {N : Pos} {run : Run} (h : run.InOrder D N) {r : DefectRecord}
    (hr : r ∈ run.queue.records) : (run.abandon r).InOrder D N := by
  by_cases ho : r.state = .opened
  · rw [Run.abandon_opened ho]
    exact (h.close hr ho (by decide)).1
  · rw [Run.abandon_closed ho]
    exact h.restate (r' := { r with state := .abandoned }) hr ⟨rfl, rfl, rfl⟩ (by simp [ho]) rfl rfl rfl
      rfl

@[simp] theorem Work.freed_params (w : Work) : w.freed.lane.params = w.lane.params := by
  unfold Work.freed; split <;> rfl

/-- The freed work is in order, and nothing OPEN covers its oldest entry (R58). -/
theorem Work.freed_inOrder {w : Work} {D : Int} {N : Pos} (h : w.lane.run.InOrder D N) {e : Entry}
    {es : List Entry} (hw : w.lane.run.ring.window = e :: es) :
    w.freed.lane.run.InOrder D N ∧ ∀ r ∈ w.freed.lane.run.recordOf e, r.state ≠ .opened := by
  cases hh : w.lane.run.holder with
  | none =>
    have hfreed : w.freed = w := by simp only [Work.freed, hh]
    rw [hfreed]
    refine ⟨h, fun r hr ho => ?_⟩
    have := Run.holder_eq_none hw hh r hr
    rw [ho] at this
    exact absurd this (by decide)
  | some r =>
    have hfreed : w.freed.lane.run = w.lane.run.abandon r := by simp [Work.freed, hh]
    obtain ⟨f, hf, hrec, -⟩ := Run.holder_eq_some hh
    obtain rfl : e = f := by simpa [hw] using hf
    rw [hfreed]
    refine ⟨h.abandon (recordOf_mem hrec), fun a ha ho => ?_⟩
    have hmem := recordOf_mem ha
    rw [abandon_queue] at hmem
    rcases mem_update hmem with rfl | ⟨-, hid⟩
    · cases ho
    · obtain ⟨id, hlink, hfind⟩ := Option.bind_eq_some_iff.1 hrec
      obtain ⟨id', hlink', hfind'⟩ := Option.bind_eq_some_iff.1 ha
      have h1 : r.id = id := by simpa using List.find?_some hfind
      have h2 : a.id = id' := by simpa using List.find?_some hfind'
      rw [hlink, Option.some.injEq] at hlink'
      exact hid (by rw [h2, ← hlink', ← h1])

/-- Making room keeps the order: at a full ring the window is longer than any LOOKAHEAD (R58, R59, R63). -/
theorem makeRoom_inOrder {w : Work} {D : Int} {N : Pos} (hD : D ≤ 1536) (h : w.lane.run.InOrder D N)
    (n : Nat) : (makeRoom n w).lane.run.InOrder D N := by
  refine makeRoom_induction (P := fun v => v.lane.run.InOrder D N) n h fun v hv hfull => ?_
  have htail := hv.ring.tail_le
  unfold Ring.fill at hfull
  rw [makeRoomOnce_eq]
  cases hw : v.lane.run.ring.window with
  | nil => rw [hw, List.length_nil] at hfull; omega
  | cons e es =>
    rw [hw, List.length_cons] at hfull
    obtain ⟨hfreed, hfree⟩ := v.freed_inOrder hv hw
    exact depart_inOrder hfreed (by rw [Work.freed_ring, hw]) (by omega) (by omega) hfree

/-! ### The examination -/

theorem dropRecord_inOrder {w : Work} {D : Int} {N : Pos} (h : w.lane.run.InOrder D N) :
    (dropRecord w).lane.run.InOrder D N := by
  rw [dropRecord_eq]
  exact h.same rfl rfl rfl rfl

/-- A record that opens behind all others, which are closed, or is dropped (R90, R99). -/
theorem openRecord_inOrder {w : Work} {D : Int} {N : Pos} (h : w.lane.run.InOrder D N)
    {start stop : Pos} (hclosed : ∀ a ∈ w.lane.run.queue.records, a.state ≠ .opened)
    (hlow : -(w.lane.run.ring.window.length : Int) ≤ posDiff start N)
    (hspan : posDiff start N ≤ posDiff stop N) (hhigh : posDiff stop N ≤ 47)
    (hshort : posDiff stop N - posDiff start N ≤ 1023)
    (hrise : ∀ a ∈ w.lane.run.queue.records, posDiff a.stop N < posDiff start N)
    (hfollow : 0 ≤ posDiff start N → ∃ a ∈ w.lane.run.queue.records, a.stop + 1 = start)
    (c : Causes) (p : Nat) (t : Nat × Nat) :
    (openRecord w start stop c p t).lane.run.InOrder D N := by
  unfold openRecord
  dsimp only
  split
  · exact dropRecord_inOrder h
  case isFalse hroom =>
    have hfew : w.lane.run.queue.records.length < 32 := Nat.not_le.1 hroom
    refine h.cover (h.records.append hfew hclosed rfl rfl ?_ hrise hfollow) (by simp) (fun a ha => ?_)
      fun a ha => ?_
    · exact ⟨by show _ ≤ posDiff stop N; omega, hhigh, hspan, hshort, fun _ => hlow⟩
    · exact ⟨a, by simp [ha], rfl, le_rfl, le_rfl⟩
    · simpa [or_comm] using ha

/-- How far a demand of at most 48 positions reaches. -/
theorem Demand.reach_le {d : Demand} (h : d.splice ≤ 48) : 0 ≤ d.reach ∧ d.reach ≤ 47 := by
  unfold reach
  split <;> omega

theorem limitBack_le (lastEnd : Option Pos) (n : Pos) (k : Nat) : limitBack lastEnd n k ≤ k := by
  unfold limitBack
  cases lastEnd with
  | none => exact le_rfl
  | some e => dsimp only; split <;> omega

/-- A limited start lies beyond the last end (R90). -/
theorem limitBack_lt {e n : Pos} (h : 0 < posDiff n e) (k : Nat) :
    (limitBack (some e) n k : Int) < posDiff n e := by
  have hne : e ≠ n := by rintro rfl; rw [posDiff_self] at h; omega
  have hdist := toNat_sub_eq h.le
  simp only [limitBack, if_neg hne]
  omega

/-- Where no record's span holds the newest entry, all records end before it: one that ended later would
follow another at once, and so on back to one that holds it. -/
theorem RecordsInOrder.stop_lt_of_uncovered {N : Pos} {W : Nat} {rs : List DefectRecord}
    {nextId : RecordId} {lastEnd : Option Pos} (h : RecordsInOrder N W rs nextId lastEnd) (hW : W ≤ 2048)
    (hout : ∀ r ∈ rs, ¬(posDiff r.start N ≤ -1 ∧ -1 ≤ posDiff r.stop N)) :
    ∀ r ∈ rs, posDiff r.stop N < -1 := by
  by_contra hc
  push Not at hc
  obtain ⟨x, hx, hxstop⟩ := hc
  obtain ⟨r, hfind⟩ : ∃ r, rs.find? (fun r => decide (-1 ≤ posDiff r.stop N)) = some r := by
    rw [← Option.isSome_iff_exists, List.find?_isSome]
    exact ⟨x, hx, by simpa using hxstop⟩
  obtain ⟨hstop, pre, post, rfl, hpre⟩ := List.find?_eq_some_iff_append.1 hfind
  have hr : r ∈ pre ++ r :: post := by simp
  have hstop : -1 ≤ posDiff r.stop N := by simpa using hstop
  have hstart : 0 ≤ posDiff r.start N := by
    have := hout r hr
    omega
  obtain ⟨a, ha, har⟩ := h.follows r hr hstart
  obtain ⟨a1, a2, a3⟩ := h.bounds hW ha
  obtain ⟨r1, r2, r3⟩ := h.bounds hW hr
  have hnext : posDiff r.start N = posDiff a.stop N + 1 := by
    rw [← har, ← posAdd_one, posDiff_posAdd (by omega) (by omega)]
  have hrise := h.rising
  rw [List.pairwise_append, List.pairwise_cons] at hrise
  rcases List.mem_append.1 ha with hmem | hmem
  · have : posDiff a.stop N < -1 := by simpa using hpre a hmem
    omega
  · rcases List.mem_cons.1 hmem with rfl | hmem
    · omega
    · have := hrise.2.1.1 a hmem
      omega

/-- Every record ends at or before the OPEN one's end. -/
theorem RecordsInOrder.stop_le_opened {N : Pos} {W : Nat} {rs : List DefectRecord} {nextId : RecordId}
    {lastEnd : Option Pos} (h : RecordsInOrder N W rs nextId lastEnd) {r : DefectRecord} (hr : r ∈ rs)
    (ho : r.state = .opened) : ∀ a ∈ rs, posDiff a.stop N ≤ posDiff r.stop N := by
  obtain ⟨older, rfl, -⟩ := h.newest_of_opened hr ho
  exact h.stop_le_newest

/-- The start of a record that the newest entry opens: at most two positions before it, and beyond every
record (R90). -/
theorem RecordsInOrder.openingStart {N : Pos} {W : Nat} {rs : List DefectRecord} {nextId : RecordId}
    {lastEnd : Option Pos} (h : RecordsInOrder N W rs nextId lastEnd) (hW : W ≤ 2048)
    (hclosed : ∀ a ∈ rs, a.state ≠ .opened) (hbefore : ∀ a ∈ rs, posDiff a.stop N < -1) {n : Pos}
    (hn : posDiff n N = -1) (fires : Bool) (older : Nat) :
    -1 - (min 2 older : Nat) ≤ posDiff (openingStart fires lastEnd n older) N ∧
      posDiff (openingStart fires lastEnd n older) N ≤ -1 ∧
      ∀ a ∈ rs, posDiff a.stop N < posDiff (openingStart fires lastEnd n older) N := by
  unfold Machine.openingStart
  have hback := limitBack_le lastEnd n (if fires then min 2 older else 0)
  have htwo : (if fires = true then min 2 older else 0) ≤ min 2 older := by split <;> omega
  rw [posDiff_posAdd (by omega) (by omega), hn]
  refine ⟨by omega, by omega, fun a ha => ?_⟩
  have hne : rs ≠ [] := List.ne_nil_of_mem ha
  have hlast := List.dropLast_append_getLast hne
  have hmem := List.getLast_mem hne
  have hend : lastEnd = some (rs.getLast hne).stop := by
    refine h.lastEnd _ ?_
    rw [List.filter_eq_self.2 fun b hb => by simpa using hclosed b hb]
    simp [List.getLast?_eq_some_getLast hne]
  have hnewest : posDiff a.stop N ≤ posDiff (rs.getLast hne).stop N := by
    have h' := h
    rw [← hlast] at h' ha
    exact h'.stop_le_newest a ha
  have hlt := hbefore _ hmem
  obtain ⟨b1, b2, b3⟩ := h.bounds hW hmem
  have hdist : posDiff n (rs.getLast hne).stop = -1 - posDiff (rs.getLast hne).stop N := by
    rw [posDiff_eq_sub N (by omega) (by omega), hn]
  have := limitBack_lt (e := (rs.getLast hne).stop) (n := n) (by omega)
    (if fires then min 2 older else 0)
  rw [← hend] at this
  omega

section Examination

variable {w : Work} {D : Int} {N : Pos} {n : Entry} (hn : posDiff n.pos N = -1)
include hn

/-- An opening at the newest entry, where no record is OPEN (R90, R95). -/
theorem openAt_inOrder (hD : 3 ≤ D) (h : w.lane.run.InOrder D N) (hmany : 1 ≤ w.lane.run.ring.window.length)
    (hclosed : ∀ a ∈ w.lane.run.queue.records, a.state ≠ .opened) {covered : Bool}
    (hbefore : covered = false → ∀ a ∈ w.lane.run.queue.records, posDiff a.stop N < -1) {d : Demand}
    (hd : d.splice ≤ 48) (m : Measures) : (openAt w n covered m d).lane.run.InOrder D N := by
  unfold openAt
  dsimp only
  split
  · exact h
  case isFalse hc =>
    have hcov : covered = false := by
      cases covered
      · rfl
      · simp at hc
    obtain ⟨hlow, hhigh, hrise⟩ := h.records.openingStart h.ring.window_le hclosed (hbefore hcov) hn
      d.fires (w.lane.run.ring.tail.length + w.lane.run.ring.window.length - 1)
    obtain ⟨hreach, hreach'⟩ := Demand.reach_le hd
    have hstop : posDiff (posAdd n.pos d.reach) N = -1 + d.reach := by
      rw [posDiff_posAdd (by omega) (by omega), hn]
    have hwindow : -(w.lane.run.ring.window.length : Int) ≤
        -1 - (min 2 (w.lane.run.ring.tail.length + w.lane.run.ring.window.length - 1) : Nat) := by
      cases ht : w.lane.run.ring.tail with
      | nil => simp only [List.length_nil]; omega
      | cons f fs =>
        have := h.lookahead (by rw [ht]; simp)
        omega
    exact openRecord_inOrder h hclosed (hwindow.trans hlow) (by omega) (by omega) (by omega) hrise
      (fun hpos => absurd hpos (by omega)) _ _ _

/-- The rest of a splice beyond a capped record, which ends at the newest entry or later (R94). -/
theorem openRemainder_inOrder (h : w.lane.run.InOrder D N)
    (hclosed : ∀ a ∈ w.lane.run.queue.records, a.state ≠ .opened) {capEnd : Pos}
    (hcap : ∃ a ∈ w.lane.run.queue.records, a.stop = capEnd) (hlow : -1 ≤ posDiff capEnd N)
    (hhigh : posDiff capEnd N ≤ 47)
    (hnewest : ∀ a ∈ w.lane.run.queue.records, posDiff a.stop N ≤ posDiff capEnd N) {d : Demand}
    (hd : d.splice ≤ 48) : (openRemainder w n capEnd d).lane.run.InOrder D N := by
  unfold openRemainder
  split
  case isFalse => exact h
  case isTrue hbeyond =>
    have hwindow : 0 ≤ (w.lane.run.ring.window.length : Int) := by omega
    rw [posDiff_eq_sub N (by omega) (by omega), hn] at hbeyond
    have hstart : posDiff (posAdd capEnd 1) N = posDiff capEnd N + 1 :=
      posDiff_posAdd (by omega) (by omega)
    have hstop : posDiff (posAdd n.pos ((d.splice : Int) - 1)) N = -1 + ((d.splice : Int) - 1) := by
      rw [posDiff_posAdd (by omega) (by omega), hn]
    refine openRecord_inOrder h hclosed (by omega) (by omega) (by omega) (by omega) (fun a ha => ?_)
      (fun _ => ?_) _ _ _
    · have := hnewest a ha
      omega
    · obtain ⟨a, ha, hstop⟩ := hcap
      exact ⟨a, ha, by rw [hstop]; rfl⟩

end Examination

/-- The sums of an entry change no more of the record and the detector than the sums (R96). -/
theorem addEnergy_keeps (run : Run) (r : DefectRecord) (m : Measures) (n : Pos) :
    r.SameSpan (addEnergy run r m n).1 ∧ (addEnergy run r m n).1.state = r.state ∧
      (addEnergy run r m n).2.nextId = run.detector.nextId ∧
      (addEnergy run r m n).2.lastEnd = run.detector.lastEnd := by
  unfold addEnergy
  dsimp only
  split
  · exact ⟨⟨rfl, rfl, rfl⟩, rfl, rfl, rfl⟩
  · split <;> exact ⟨⟨rfl, rfl, rfl⟩, rfl, rfl, rfl⟩

/-- The end of the OPEN record after a demand at the newest entry, told from N (R92, R94). -/
theorem extended_stop {N n : Pos} {r : DefectRecord} {d : Demand} (l : Lane) (hn : posDiff n N = -1)
    (hlow : -3071 ≤ posDiff r.start N) (hspan : posDiff r.start N ≤ posDiff r.stop N)
    (hhigh : posDiff r.stop N ≤ 47) (hd : d.splice ≤ 48) :
    posDiff (extended l r n d).stop N =
      posDiff r.start N + min (max (posDiff r.stop N - posDiff r.start N)
        (-1 - posDiff r.start N + d.reach)) 1023 := by
  obtain ⟨hreach, hreach'⟩ := Demand.reach_le hd
  have hlength : posDiff r.stop r.start = posDiff r.stop N - posDiff r.start N :=
    posDiff_eq_sub N (by omega) (by omega)
  have hfrom : posDiff n r.start = -1 - posDiff r.start N := by
    rw [posDiff_eq_sub N (by omega) (by omega), hn]
  simp only [extended, hlength, hfrom]
  have hcap : ((Config.longestRecord - 1 : Nat) : Int) = 1023 := by decide
  rw [hcap, posDiff_posAdd (by omega) (by omega)]

section Examination

variable {w : Work} {D : Int} {N : Pos} {n : Entry} (h : w.lane.run.InOrder D N) (hD : 3 ≤ D)
  (hn : posDiff n.pos N = -1) (hmem : n ∈ w.lane.run.ring.window)
include h hD hn hmem

/-- The demand of the newest entry on the OPEN record (R92, R94, R95). -/
theorem extendRecord_inOrder {r : DefectRecord} (hr : r ∈ w.lane.run.queue.records)
    (ho : r.state = .opened) {d : Demand} (hd : d.splice ≤ 48) (m : Measures) :
    (extendRecord w r n m d).lane.run.InOrder D N := by
  obtain ⟨r1, r2, r3⟩ := h.records.bounds h.ring.window_le hr
  obtain ⟨s1, s2, s3, s4, s5⟩ := h.records.spans r hr
  obtain ⟨hreach, hreach'⟩ := Demand.reach_le hd
  have hstop := extended_stop w.lane hn r1 r2 r3 hd
  obtain ⟨⟨hid, hstart, hstop'⟩, hstate, hnext, hlast⟩ :=
    addEnergy_keeps w.lane.run (extended w.lane r n.pos d) m n.pos
  unfold extendRecord
  dsimp only
  generalize addEnergy w.lane.run (extended w.lane r n.pos d) m n.pos = a at *
  obtain ⟨r', det⟩ := a
  dsimp only at *
  rw [← hstop'] at hstop
  have hstart : r'.start = r.start := hstart
  have ho' : r'.state = .opened := hstate.trans ho
  have hwindow := h.ring.window_le
  have hmany : 1 ≤ w.lane.run.ring.window.length := List.length_pos_of_mem hmem
  have hgrown : r'.SpanOk N w.lane.run.ring.window.length :=
    ⟨by omega, by omega, by rw [hstart]; omega, by rw [hstart]; omega, fun _ => by rw [hstart]; exact s5 ho⟩
  obtain ⟨hput, hr'⟩ := h.grow (det := det) hr ho hid hstart ho' (by omega) hgrown hnext hlast
  split
  case isFalse => exact hput
  case isTrue =>
    have hnewest := hput.records.stop_le_opened hr' ho'
    obtain ⟨hclose, hclosed⟩ := hput.close hr' ho' (st := .long) (by decide)
    have hstops : ∀ a ∈ ((Run.putRecord { w.lane.run with detector := det } r').close r'
        .long).queue.records, posDiff a.stop N ≤ posDiff r'.stop N := fun a ha => by
      rcases mem_update ha with rfl | ⟨ha, -⟩
      · exact le_rfl
      · exact hnewest a ha
    have hdist : posDiff n.pos r'.stop = -1 - posDiff r'.stop N := by
      rw [posDiff_eq_sub N (by omega) (by omega), hn]
    split
    case isTrue hbeyond =>
      refine openAt_inOrder (w := w.setRun _) hn hD hclose ?_ hclosed (fun _ a ha => ?_) hd m
      · simpa [Run.close, Run.putRecord, Run.cover] using hmany
      · have := hstops a ha
        omega
    case isFalse hwithin =>
      refine openRemainder_inOrder (w := w.setRun _) (capEnd := r'.stop) hn hclose hclosed
        ⟨{ r' with state := .long }, ?_, rfl⟩ (by omega) (by omega) hstops hd
      exact List.mem_map.2 ⟨r', hr', if_pos rfl⟩

/-- The records after the newest entry's firing and splice (R83, step 4). -/
theorem recordActions_inOrder {d : Demand} (hd : d.splice ≤ 48) (m : Measures) :
    (recordActions w n m d).lane.run.InOrder D N := by
  unfold recordActions
  split
  case h_1 r hr =>
    obtain ⟨hr, ho⟩ := openRecord_mem hr
    split
    · exact extendRecord_inOrder h hD hn hmem hr ho hd m
    · obtain ⟨hs, hstate, hnext, hlast⟩ := addEnergy_keeps w.lane.run r m n.pos
      exact h.restate hr hs (by rw [hstate]) rfl rfl hnext hlast
  case h_2 hr =>
    refine openAt_inOrder hn hD h (List.length_pos_of_mem hmem) (openRecord_eq_none_iff.1 hr)
      (fun hcov => ?_) hd m
    have hlink := h.links n hmem
    rw [Option.isSome_eq_false_iff, Option.isNone_iff_eq_none] at hcov
    rw [hcov] at hlink
    have hout := (h.apart.covering_eq_none_iff (h.ring.near hmem)).1 hlink.symm
    refine h.records.stop_lt_of_uncovered h.ring.window_le fun a ha hin => hout a ha ?_
    unfold DefectRecord.Covers
    rwa [hn]

end Examination

/-- The closing test keeps the order (R93). -/
theorem closingTest_inOrder {w : Work} {D : Int} {N : Pos} (h : w.lane.run.InOrder D N) (n : Pos) :
    (closingTest w n).lane.run.InOrder D N := by
  unfold closingTest
  split
  case h_1 r hr =>
    obtain ⟨hr, ho⟩ := openRecord_mem hr
    split
    · exact (h.close hr ho (by split <;> decide)).1
    · exact h
  case h_2 => exact h

/-- The examination of the newest entry keeps the order (R83). -/
theorem examine_inOrder {w : Work} {D : Int} {N : Pos} {n : Entry} (h : w.lane.run.InOrder D N)
    (hD : 3 ≤ D) (hn : posDiff n.pos N = -1) (hmem : n ∈ w.lane.run.ring.window)
    (hsplice : w.lane.params.get .spliceSpan ≤ 48) : (examine w n).lane.run.InOrder D N := by
  unfold examine
  split
  · exact h
  · obtain ⟨m, c, v, det, hv, he, hlast, hnext⟩ := examineEntry_eq w n
    have hd : (demandOf w.settled.lane c m n).splice ≤ 48 := by
      have hp : w.settled.lane.params = w.lane.params := rfl
      simp only [demandOf, hp]
      split <;> omega
    have hsettled : w.settled.lane.run.InOrder D N := h.same rfl rfl rfl rfl
    have hacted : v.lane.run.InOrder D N := by
      rw [hv]
      exact closingTest_inOrder (recordActions_inOrder hsettled hD hn hmem hd m) n.pos
    rw [he]
    exact hacted.same rfl rfl hnext hlast

end Sys2Proof.Machine

namespace Sys2Proof.Machine

/-! ### The order of the records through a lane's event -/

/-- The order is about LOOKAHEAD as the ranges have it, and a SPLICE demand is short (R164). -/
structure Params.Historic (ps : Params) : Prop where
  low : 3 ≤ ps.get .lookahead
  high : ps.get .lookahead ≤ 1536
  splice : ps.get .spliceSpan ≤ 48

theorem Lane.ParamsOk.historic {l : Lane} (h : l.ParamsOk) : l.params.Historic :=
  ⟨le_trans (by decide) (h .lookahead (by decide)).1, (h .lookahead (by decide)).2,
    (h .spliceSpan (by decide)).2⟩

/-- The records and the ring of a lane in order, told from the next output's position. -/
def Lane.InOrder (l : Lane) : Prop :=
  l.run.InOrder (l.params.get .lookahead) l.run.resampler.nextPos

/-- Stages 2 to 4 of an entry event, once there is room: the entry at N enters, is examined, and the
departure test follows (R49). -/
theorem enter_inOrder {w : Work} {N : Pos} {n : Entry} (hp : w.lane.params.Historic)
    (h : w.lane.run.InOrder (w.lane.params.get .lookahead) N) (hfill : w.lane.run.ring.fill < 2048)
    (hpos : n.pos = N) (hlink : n.link = w.lane.run.queue.covering N) :
    (departureTest (examine (placeEntry w n) n)).lane.run.InOrder (w.lane.params.get .lookahead)
      (N + 1) := by
  obtain ⟨hlow, -, hsplice⟩ := hp
  have hplaced : (placeEntry w n).lane.params = w.lane.params := (placeEntry_keeps w n).1.params
  have hexamined : (examine (placeEntry w n) n).lane.params = w.lane.params :=
    (examine_keeps _ n).1.params.trans hplaced
  have hentered : (placeEntry w n).lane.run.InOrder (w.lane.params.get .lookahead) (N + 1) :=
    h.place hfill hpos hlink (placeEntry_ring w n) (by simp [placeEntry]) (by simp [placeEntry])
  have hnewest : posDiff n.pos (N + 1) = -1 := by
    rw [hpos, posDiff_next (by rw [posDiff_self]; omega) (by rw [posDiff_self]; omega), posDiff_self]
    rfl
  rw [← hexamined] at hlow ⊢
  refine departureTest_inOrder (by omega) ?_
  rw [hexamined]
  rw [hexamined] at hlow
  exact examine_inOrder hentered hlow hnewest (by simp) (by rwa [hplaced])

/-- The entry event of the output at N carries the order on to N + 1 (R49). -/
theorem entryEvent_inOrder {w : Work} {o : Output} (hp : w.lane.params.Historic)
    (h : w.lane.run.InOrder (w.lane.params.get .lookahead) o.pos) :
    (entryEvent w o).lane.run.InOrder (w.lane.params.get .lookahead) (o.pos + 1) := by
  have hindexed : (indexOutput w o).lane.run.InOrder (w.lane.params.get .lookahead) o.pos := by
    unfold indexOutput
    dsimp only
    split <;> exact h.same rfl rfl rfl rfl
  have hroom := makeRoom_inOrder hp.high hindexed (indexOutput w o).lane.run.ring.window.length
  have hparams := ((indexOutput_keeps w o).trans
    (makeRoom_keeps (indexOutput w o).lane.run.ring.window.length _)).1.params
  rw [← hparams] at hp hroom ⊢
  exact enter_inOrder hp hroom (makeRoom_fill hindexed.ring.tail_le hindexed.ring.fill_le) rfl rfl

theorem onSignalLost_inOrder {w : Work} {N : Pos} (hp : w.lane.params.Historic)
    (h : w.lane.run.InOrder (w.lane.params.get .lookahead) N) :
    (onSignalLost w).lane.run.InOrder (w.lane.params.get .lookahead) N := by
  cases hr : w.lane.run.queue.openRecord with
  | none => rwa [onSignalLost_none hr]
  | some r =>
    obtain ⟨hr', ho⟩ := openRecord_mem hr
    rw [onSignalLost_some hr]
    exact departureTest_inOrder
      (w := ((w.raise .signalState).note .signalLost).setRun (w.lane.run.close r .long))
      (le_trans (by decide) hp.low) (h.close hr' ho (by decide)).1

/-- What a RUNNING lane's events keep of the order of its records. -/
structure Lane.OrderedRun (l : Lane) : Prop where
  running : l.state = .running
  params : l.params.Historic
  order : l.InOrder

theorem orderedRun_keptInEvents : KeptInEvents Lane.OrderedRun where
  same h k := by
    obtain ⟨hs, hp, ho⟩ := h
    refine ⟨k.state.trans hs, by rwa [k.params], ?_⟩
    unfold Lane.InOrder at ho ⊢
    rw [k.params, k.nextPos]
    exact ho.same k.ring (by rw [k.queue]) k.nextId k.lastEnd
  output p q w h := by
    obtain ⟨hs, hp, ho⟩ := h
    have hk := (entryEvent_keeps (w.setRun { w.lane.run with resampler := w.lane.run.resampler.advance })
      (outputAt w.lane p q)).1
    refine ⟨hk.state.trans hs, ?_, ?_⟩
    · rw [produce, hk.params]; exact hp
    · rw [Lane.InOrder, produce_resampler, produce, hk.params]
      exact entryEvent_inOrder (w := w.setRun _) (o := outputAt w.lane p q) hp
        (Run.InOrder.same ho rfl rfl rfl rfl)
  lost w h := by
    obtain ⟨hs, hp, ho⟩ := h
    obtain ⟨hk, hinput⟩ := onSignalLost_keeps w
    refine ⟨hk.state.trans hs, by rwa [hk.params], ?_⟩
    rw [Lane.InOrder, hk.params, hinput.resampler]
    exact onSignalLost_inOrder hp ho

/-- The record of a job is a record of the lane (R117). -/
theorem Lane.recordOfJob_mem {l : Lane} {j : Job} {b : BankId} {r : DefectRecord}
    (h : l.recordOfJob j b = some r) : r ∈ l.run.queue.records := by
  unfold recordOfJob at h
  split at h
  · exact List.mem_of_find?_eq_some (Option.filter_eq_some_iff.1 h).1
  · cases h

/-- The entries of the window may change but for their positions and links. -/
theorem Run.InOrder.relabel {D : Int} {N : Pos} {run run' : Run} (h : run.InOrder D N)
    {f : Entry → Entry} (hpos : ∀ e, (f e).pos = e.pos) (hlink : ∀ e, (f e).link = e.link)
    (hring : run'.ring = { run.ring with window := run.ring.window.map f })
    (hq : run'.queue = run.queue) (hdet : run'.detector = run.detector) : run'.InOrder D N := by
  refine ⟨h.ring.of_positions (by rw [hring]) ?_, ?_, ?_, fun e he => ?_⟩
  · rw [hring, List.map_map]
    exact List.map_congr_left fun e _ => hpos e
  · rw [hring, List.length_map]
    exact h.lookahead
  · rw [hring, hq, hdet, List.length_map]
    exact h.records
  · rw [hring] at he
    obtain ⟨a, ha, rfl⟩ := List.mem_map.1 he
    rw [hlink, hpos, hq, h.links a ha]

@[simp] theorem Entry.repair_link (r : DefectRecord) (vs : List Int) (e : Entry) :
    (e.repair r vs).link = e.link := by
  unfold repair; split <;> rfl

/-- The run after the results are written and the record is REPAIRED (R118, steps 1 and 2). -/
def Run.written (run : Run) (r : DefectRecord) (results : List Int) : Run :=
  { run with
    ring := { run.ring with window := run.ring.window.map (Entry.repair r results) }
    queue := run.queue.update { r with state := .repaired, holding := none } }

theorem writeResults_eq (r : DefectRecord) (results : List Int) (w : Work) :
    writeResults r results w = departureTest (w.setRun (w.lane.run.written r results)) := rfl

/-- A matching write-back resolves its record and fills its entries, none of which moves (R118). -/
theorem writeBackLane_inOrder {w : Work} {N : Pos} (hp : w.lane.params.Historic)
    (h : w.lane.run.InOrder (w.lane.params.get .lookahead) N) (b : BankId) (j : Job) (rs : List Int) :
    (writeBackLane b j rs w).lane.run.InOrder (w.lane.params.get .lookahead) N := by
  unfold writeBackLane
  split
  case h_1 r hr =>
    obtain ⟨hjob, hs⟩ := Option.filter_eq_some_iff.1 hr
    have hmem := Lane.recordOfJob_mem hjob
    have hs : r.state = .inRepair := by simpa using hs
    have hrepaired := h.restate (r' := { r with state := .repaired, holding := none }) hmem ⟨rfl, rfl, rfl⟩
      (by simp [hs]) (run' := { w.lane.run with
        queue := w.lane.run.queue.update { r with state := .repaired, holding := none } }) rfl rfl rfl rfl
    rw [writeResults_eq]
    refine departureTest_inOrder (w := w.setRun (w.lane.run.written r rs)) (le_trans (by decide) hp.low) ?_
    exact hrepaired.relabel (f := Entry.repair r rs) (by simp) (by simp) rfl rfl rfl
  case h_2 => exact h

/-! ### The order through every row -/

/-- The records of a lane in order, and none on a lane that is not RUNNING (R98). -/
structure Lane.Ordered (l : Lane) : Prop where
  idle : l.state ≠ .running → l.run.queue.records = [] ∧ l.run.ring = ⟨[], []⟩
  order : l.InOrder

theorem Lane.recordsOk_iff_ordered {l : Lane} (hring : l.RingOk)
    (hfew : l.run.queue.records.length ≤ 32) : l.RecordsOk ↔ l.Ordered :=
  (Lane.recordsOk_iff hring hfew).trans ⟨fun ⟨h, k⟩ => ⟨h, k⟩, fun ⟨h, k⟩ => ⟨h, k⟩⟩

theorem Lane.Ordered.of_empty {l : Lane} (hq : l.run.queue.records = []) (hr : l.run.ring = ⟨[], []⟩) :
    l.Ordered := by
  refine ⟨fun _ => ⟨hq, hr⟩, by rw [hr]; exact Ring.upTo_empty _, by simp [hr], ?_, by simp [hr]⟩
  rw [hq]
  exact .nil _ _ _ _

/-- What leaves ring, queue, detector, resampler and, on a RUNNING lane, LOOKAHEAD keeps the order. -/
theorem Lane.Ordered.of_run {l l' : Lane} (h : l.Ordered) (hs : l'.state = .running ↔ l.state = .running)
    (hp : l.state = .running → l'.params.get .lookahead = l.params.get .lookahead)
    (hring : l'.run.ring = l.run.ring) (hq : l'.run.queue = l.run.queue)
    (hdet : l'.run.detector = l.run.detector) (hres : l'.run.resampler = l.run.resampler) :
    l'.Ordered := by
  by_cases hr : l.state = .running
  · refine ⟨fun hs' => absurd (hs.2 hr) hs', ?_⟩
    rw [Lane.InOrder, hp hr, hres]
    exact h.order.same hring (by rw [hq]) (by rw [hdet]) (by rw [hdet])
  · obtain ⟨h1, h2⟩ := h.idle hr
    exact .of_empty (by rw [hq, h1]) (by rw [hring, h2])

/-- One record's state rewritten, not to or from OPEN. -/
theorem Lane.Ordered.restate {l : Lane} (h : l.Ordered) {r r' : DefectRecord}
    (hr : r ∈ l.run.queue.records) (hs : r.SameSpan r') (ho : r.state ≠ .opened) (ho' : r'.state ≠ .opened) :
    ({ l with run := { l.run with queue := l.run.queue.update r' } } : Lane).Ordered := by
  refine ⟨fun hidle => ?_, h.order.restate hr hs (by simp [ho, ho']) rfl rfl rfl rfl⟩
  obtain ⟨hempty, -⟩ := h.idle hidle
  rw [hempty] at hr
  cases hr

theorem oldestQueued_mem {q : DefectQueue} {r : DefectRecord} (h : q.oldestQueued = some r) :
    r ∈ q.records ∧ r.state = .queued :=
  ⟨List.mem_of_find?_eq_some h, by simpa using List.find?_some h⟩

/-- A parameter write keeps the order: LOOKAHEAD is written on no RUNNING lane (R1, R164). -/
theorem Lane.Ordered.writeParam {l : Lane} (h : l.Ordered) (p : Param) (v : Int)
    (hp : p.row.stoppedOnly = true → l.state ≠ .running) : (l.writeParam p v).Ordered := by
  obtain ⟨hstate, hparams, -⟩ := l.writeParam_sameTracking p v
  refine h.of_run (by rw [hstate]) (fun hr => ?_) (by rw [writeParam_run]) (by rw [writeParam_run])
    (by rw [writeParam_run]) (by rw [writeParam_run])
  have hne : Param.lookahead ≠ p := fun e => hp (e ▸ rfl) hr
  rw [hparams, Params.get_put_other _ _ _ _ hne]

/-- No row takes a lane's records out of order (R89 to R98). -/
theorem Work.ByRow.ordered {w v : Work} (h : w.ByRow v) (hp : w.lane.params.Historic)
    (ok : w.lane.Ordered) : v.lane.Ordered := by
  have same {l : Lane} (hs : l.state = .running ↔ w.lane.state = .running)
      (hpar : l.params = w.lane.params) (hrun : l.run = w.lane.run) : l.Ordered :=
    ok.of_run hs (fun _ => by rw [hpar]) (by rw [hrun]) (by rw [hrun]) (by rw [hrun]) (by rw [hrun])
  have events (hr : w.lane.state = .running) {v : Work} (k : v.lane.OrderedRun) : v.lane.Ordered :=
    ⟨fun hidle => absurd k.running hidle, k.order⟩
  have stopped {v : Work} (hq : v.lane.run = Run.ended) : v.lane.Ordered :=
    .of_empty (by rw [hq]; rfl) (by rw [hq]; rfl)
  cases h with
  | unchanged => exact ok
  | enable hs | disable hs => exact same (by simp [hs]) rfl rfl
  | start _ => exact .of_empty rfl rfl
  | stop _ =>
    obtain ⟨a, b, latch, hl, -⟩ := stopEffects_lane w
    exact stopped (by rw [hl]; rfl)
  | reset =>
    by_cases hr : w.lane.state = .running
    · rw [resetLaneEffects_running hr]
      obtain ⟨a, b, latch, hl, -⟩ := stopEffects_lane w
      exact stopped (by rw [hl]; rfl)
    · rw [resetLaneEffects_notRunning hr]
      exact same Iff.rfl rfl rfl
  | toDefaults hs =>
    obtain ⟨h1, h2⟩ := ok.idle hs
    exact .of_empty h1 h2
  | setParam p v hp => exact ok.writeParam p v hp
  | writeTable t first vs _ _ => cases t <;> exact same Iff.rfl rfl rfl
  | setMask _ => exact same Iff.rfl rfl rfl
  | loadSegment i _ _ _ | unload i _ _ | requestEnd i _ _ _ _ _ | collect i _ _ _ _ =>
    cases i <;> exact same Iff.rfl rfl rfl
  | word f =>
    cases ht : w.takesSensor with
    | false => rwa [takeWord_ignored ht]
    | true =>
      obtain ⟨hr, -⟩ := (takesSensor_iff w).1 ht
      exact events hr (orderedRun_keptInEvents.takeWord ⟨hr, hp, ok.order⟩ f)
  | edge k =>
    cases ht : w.takesSensor with
    | false => rwa [takeEdge_ignored ht]
    | true => rw [takeEdge_held ht]; exact same Iff.rfl rfl rfl
  | generate =>
    by_cases hr : w.lane.state = .running
    · exact events hr (orderedRun_keptInEvents.generateInstant ⟨hr, hp, ok.order⟩)
    · rwa [generateInstant, if_neg (by simp [hr])]
  | notice id =>
    unfold formLaneNotice
    split
    · exact same Iff.rfl rfl rfl
    · exact ok
  | load r b runs hr =>
    obtain ⟨hmem, hs⟩ := oldestQueued_mem hr
    exact ok.restate hmem ⟨rfl, rfl, rfl⟩ (by simp [hs]) (by simp only [loadedRecord]; split <;> simp)
  | startRepair j b r hr hs =>
    exact ok.restate (Lane.recordOfJob_mem hr) ⟨rfl, rfl, rfl⟩ (by simp [hs]) (by simp)
  | writeBack b j rs =>
    obtain ⟨hk, hinput⟩ := writeBackLane_keeps b j rs w
    refine ⟨fun hidle => ?_, ?_⟩
    · rw [hk.state] at hidle
      obtain ⟨hempty, hring⟩ := ok.idle hidle
      have hnone : w.lane.matching j b = none := by
        rw [Lane.matching, Option.filter_eq_none_iff]
        intro r hr
        have := Lane.recordOfJob_mem hr
        rw [hempty] at this
        cases this
      rw [writeBackLane, hnone]
      exact ⟨hempty, hring⟩
    · rw [Lane.InOrder, hk.params, hinput.resampler]
      exact writeBackLane_inOrder hp ok.order b j rs

end Sys2Proof.Machine

namespace Sys2Proof.Settled

open Sys2Proof.Machine

/-- Settles O47: every row keeps the order that the records, the ring and the links have together. -/
theorem recordsStayInOrder : Obligations.RecordsStayInOrder := by
  intro s t hparams hring hqueue hrecords hstep
  refine step_eachLane (P := fun l => l.ParamsOk ∧ l.RingOk ∧ l.QueueOk ∧ l.RecordsOk)
    Lane.reset_recordsOk (fun _ ⟨_, _, _, h⟩ => h) (fun w v hrow h => ?_)
    (fun i => ⟨hparams i, hring i, hqueue i, hrecords i⟩) hstep
  obtain ⟨hp, hr, ⟨hfew, -⟩, hok⟩ := h
  have hordered := hrow.ordered hp.historic ((Lane.recordsOk_iff_ordered hr hfew).1 hok)
  exact (Lane.recordsOk_iff_ordered (hrow.ringOk hr) hordered.order.records.few).2 hordered

end Sys2Proof.Settled
/-! # Making room

A full ring abandons what holds its oldest entries. What an examination may do to a record, and which
conditions a lane's events can latch. Settles O36. -/

namespace Sys2Proof.Machine

/-! ### A condition is latched only where the mask has its bit -/

/-- From w to w' the mask stays, and no condition outside it is latched (R172). -/
structure Work.LatchesByMask (w w' : Work) : Prop where
  mask : w'.lane.mask = w.lane.mask
  latch : w'.lane.latch &&& ~~~w.lane.mask = w.lane.latch &&& ~~~w.lane.mask

namespace Work.LatchesByMask

theorem of_eq {w w' : Work} (hm : w'.lane.mask = w.lane.mask) (hl : w'.lane.latch = w.lane.latch) :
    w.LatchesByMask w' := ⟨hm, by rw [hl]⟩

theorem refl (w : Work) : w.LatchesByMask w := of_eq rfl rfl

theorem trans {a b c : Work} (h : a.LatchesByMask b) (k : b.LatchesByMask c) : a.LatchesByMask c := by
  obtain ⟨hm, hl⟩ := h
  obtain ⟨km, kl⟩ := k
  rw [hm] at km kl
  exact ⟨km, kl.trans hl⟩

theorem raise {a w : Work} (h : a.LatchesByMask w) (c : Condition) : a.LatchesByMask (w.raise c) :=
  h.trans ⟨rfl, by simp [BitVec.and_or_distrib_right, BitVec.and_assoc]⟩

theorem count {a w : Work} (h : a.LatchesByMask w) (f : Report → Report) : a.LatchesByMask (w.count f) :=
  h.trans (of_eq (by simp) (by simp))

theorem setSlot {a w : Work} (h : a.LatchesByMask w) (i : SlotId) (x : Slot) :
    a.LatchesByMask (w.setLane (w.lane.setSlot i x)) :=
  h.trans (of_eq (by simp) (by simp))

theorem ite {a x y : Work} {c : Prop} [Decidable c] (hx : a.LatchesByMask x) (hy : a.LatchesByMask y) :
    a.LatchesByMask (if c then x else y) := by
  split <;> assumption

theorem enqueue {a w : Work} (h : a.LatchesByMask w) (f : Frame) : a.LatchesByMask (w.enqueue f) :=
  h.trans (of_eq rfl rfl)

theorem setRun {a w : Work} (h : a.LatchesByMask w) (r : Run) : a.LatchesByMask (w.setRun r) :=
  h.trans (of_eq rfl rfl)

/-- A condition outside the mask stays as it is. -/
theorem bit {w w' : Work} (h : w.LatchesByMask w') {c : BitVec 8} (hc : w.lane.mask &&& c = 0) :
    w'.lane.latch &&& c = w.lane.latch &&& c := by
  have hout : ~~~w.lane.mask &&& c = c := by
    have hsplit : c = (w.lane.mask &&& c) ||| (~~~w.lane.mask &&& c) := by
      rw [← BitVec.and_or_distrib_right, BitVec.or_not_self, BitVec.allOnes_and]
    simpa [hc] using hsplit.symm
  have := congrArg (· &&& c) h.latch
  simpa only [BitVec.and_assoc, hout] using this

end Work.LatchesByMask

theorem offerBlock_latches (w : Work) (d : Descriptor) (p : Nat) (vs : List Int) :
    w.LatchesByMask (offerBlock w d p vs) := by
  have hdrop (n : Nat) : w.LatchesByMask { w with streamDrops := n } := .of_eq rfl rfl
  unfold offerBlock
  dsimp only
  split
  · exact .count (.enqueue (.refl w) _) _
  · exact .raise (.count (hdrop _) _) _

theorem outputSample_latches (w : Work) (d : Descriptor) (e : Entry) (y : Int) :
    w.LatchesByMask (outputSample w d e y) := by
  have hcounted (r : Run) (f : Report → Report) : w.LatchesByMask ((w.setRun r).count f) :=
    .count (.setRun (.refl w) r) f
  unfold outputSample
  exact .ite (((hcounted _ _).setRun _).trans (offerBlock_latches _ _ _ _)) (hcounted _ _)

theorem endSegment_latches (w : Work) (i : SlotId) (reason : EndReason) :
    w.LatchesByMask (endSegment w i reason) := by
  unfold endSegment
  split
  · dsimp only
    split
    · exact ((Work.LatchesByMask.refl w).setSlot _ _).setRun _ |>.raise _
    · exact ((offerBlock_latches _ _ _ _).setSlot _ _).setRun _ |>.raise _
  · exact .refl w

theorem judge_latches (w : Work) (e : Entry) (y : Int) : w.LatchesByMask (judge w e y) := by
  have hend : w.LatchesByMask (endTest w e) := by
    unfold endTest
    split
    · exact .refl w
    · split
      · split
        · exact endSegment_latches _ _ _
        · split
          · split
            · exact (endSegment_latches _ _ _).trans (.of_eq rfl rfl)
            · exact (Work.LatchesByMask.refl w).setSlot _ _
          · exact .refl w
      · exact .refl w
  have horder (v : Work) (o : List SlotId) : v.LatchesByMask (v.setLane { v.lane with loadOrder := o }) :=
    .of_eq rfl rfl
  have hstart (v : Work) : v.LatchesByMask (startTest v e) := by
    unfold startTest startSegment
    split
    · split
      · exact ((((Work.LatchesByMask.refl v).setSlot _ _).trans (horder _ _)).setRun _).raise _
      · exact .refl v
    · exact .refl v
  have hout (v : Work) : v.LatchesByMask (outputStep v e y) := by
    unfold outputStep
    split
    · exact outputSample_latches _ _ _ _
    · exact .refl v
  exact (hend.trans (hstart _)).trans (hout _)

theorem retireAt_latches (w : Work) (e : Entry) (r : Option DefectRecord) :
    w.LatchesByMask (retireAt w e r) := by
  have hreport (v : Work) (g : BitVec 16) (r : DefectRecord) : v.LatchesByMask (offerReport v g r) := by
    unfold offerReport
    dsimp only
    split
    · exact .of_eq rfl rfl
    · exact ((Work.LatchesByMask.refl v).count _).raise _
  have hcounted (f : Report → Report) : w.LatchesByMask (w.count f) := .count (.refl w) f
  unfold retireAt retire
  dsimp only
  split
  · split
    · split
      · split
        · exact ((hcounted _).trans (hreport _ _ _)).setRun _
        · exact (hcounted _).setRun _
      · exact (hcounted _).setRun _
    · exact .refl w
  · exact .refl w

theorem depart_latches (w : Work) : w.LatchesByMask (depart w) := by
  unfold depart
  split
  · exact .refl w
  · refine .trans ?_ ((judge_latches _ _ _).trans (retireAt_latches _ _ _))
    exact .of_eq (by simp [hissDepart, humDepart, teachTemplates, countBoundaries])
      (by simp [hissDepart, humDepart, teachTemplates, countBoundaries])

theorem departureTest_latches (w : Work) : w.LatchesByMask (departureTest w) :=
  departureTest_induction (P := w.LatchesByMask) (.refl w) fun v hv _ => hv.trans (depart_latches v)

theorem openRecord_latches (w : Work) (a b : Pos) (c : Causes) (p : Nat) (t : Nat × Nat) :
    w.LatchesByMask (openRecord w a b c p t) := by
  unfold openRecord dropRecord
  dsimp only
  split
  · split
    · exact .count (.refl w) _
    · exact .raise (.setRun (.count (.refl w) _) _) _
  · exact .of_eq rfl rfl

theorem examine_latches (w : Work) (n : Entry) : w.LatchesByMask (examine w n) := by
  have hopenAt (v : Work) (b : Bool) (m : Measures) (d : Demand) : v.LatchesByMask (openAt v n b m d) := by
    unfold openAt
    dsimp only
    split
    · exact .refl v
    · exact openRecord_latches _ _ _ _ _ _
  have hrest (v : Work) (p : Pos) (d : Demand) : v.LatchesByMask (openRemainder v n p d) := by
    unfold openRemainder
    split
    · exact openRecord_latches _ _ _ _ _ _
    · exact .refl v
  have hextend (v : Work) (r : DefectRecord) (m : Measures) (d : Demand) :
      v.LatchesByMask (extendRecord v r n m d) := by
    unfold extendRecord
    dsimp only
    split
    · split
      · exact .trans (.setRun (.refl v) _) (hopenAt _ _ _ _)
      · exact .trans (.setRun (.refl v) _) (hrest _ _ _)
    · exact .setRun (.refl v) _
  have hactions (v : Work) (m : Measures) (d : Demand) : v.LatchesByMask (recordActions v n m d) := by
    unfold recordActions
    split
    · split
      · exact hextend _ _ _ _
      · exact .of_eq rfl rfl
    · exact hopenAt _ _ _ _
  have hclosing (v : Work) : v.LatchesByMask (closingTest v n.pos) := by
    unfold closingTest
    split
    · split <;> exact .of_eq rfl rfl
    · exact .refl v
  unfold examine
  split
  · exact .refl w
  · obtain ⟨m, c, v, det, rfl, he, -⟩ := examineEntry_eq w n
    rw [he]
    have hsettled : w.LatchesByMask w.settled := .of_eq rfl rfl
    exact ((hsettled.trans (hactions _ _ _)).trans (hclosing _)).setRun _

theorem makeRoomOnce_latches (w : Work) : w.LatchesByMask (makeRoomOnce w) := by
  unfold makeRoomOnce
  split
  · exact ((Work.LatchesByMask.setRun (.refl w) _).raise _).trans (depart_latches _)
  · exact depart_latches w

/-! ### Which records an examination touches -/

/-- From run to run' every record of the queue stayed, carries the next id, or was the OPEN one. -/
def Run.TouchesOpen (run run' : Run) : Prop :=
  ∀ q ∈ run'.queue.records, q ∈ run.queue.records ∨ q.id = run.detector.nextId ∨
    ∃ a ∈ run.queue.records, a.state = .opened ∧ q.id = a.id

theorem Run.TouchesOpen.of_queue {run run' : Run} (h : run'.queue.records = run.queue.records) :
    run.TouchesOpen run' := fun _ hq => .inl (h ▸ hq)

/-- The OPEN record rewritten. -/
theorem Run.TouchesOpen.update {run run' : Run} {r r' : DefectRecord} (hr : r ∈ run.queue.records)
    (ho : r.state = .opened) (hid : r'.id = r.id)
    (hq : run'.queue.records = (run.queue.update r').records) : run.TouchesOpen run' := fun q hmem => by
  rw [hq] at hmem
  rcases mem_update hmem with rfl | ⟨hmem, -⟩
  · exact .inr (.inr ⟨r, hr, ho, hid⟩)
  · exact .inl hmem

theorem openRecord_touches (w : Work) (a b : Pos) (c : Causes) (p : Nat) (t : Nat × Nat) :
    w.lane.run.TouchesOpen (openRecord w a b c p t).lane.run := by
  unfold openRecord
  dsimp only
  split
  · rw [dropRecord_eq]
    exact .of_queue rfl
  · intro q hq
    rcases List.mem_append.1 hq with hq | hq
    · exact .inl hq
    · rw [List.mem_singleton] at hq
      exact .inr (.inl (by rw [hq]))

theorem openAt_touches (w : Work) (n : Entry) (b : Bool) (m : Measures) (d : Demand) :
    w.lane.run.TouchesOpen (openAt w n b m d).lane.run := by
  unfold openAt
  dsimp only
  split
  · exact .of_queue rfl
  · exact openRecord_touches _ _ _ _ _ _

theorem openRemainder_touches (w : Work) (n : Entry) (p : Pos) (d : Demand) :
    w.lane.run.TouchesOpen (openRemainder w n p d).lane.run := by
  unfold openRemainder
  split
  · exact openRecord_touches _ _ _ _ _ _
  · exact .of_queue rfl

/-- The OPEN record rewritten twice, and at most one record opened behind it. -/
theorem Run.TouchesOpen.after {run run' run'' : Run} {r : DefectRecord} (hr : r ∈ run.queue.records)
    (ho : r.state = .opened) (hn : run'.detector.nextId = run.detector.nextId)
    (hrest : ∀ q ∈ run'.queue.records, q.id = r.id ∨ q ∈ run.queue.records)
    (h : run'.TouchesOpen run'') : run.TouchesOpen run'' := fun q hq => by
  have hback : ∀ q ∈ run'.queue.records, q ∈ run.queue.records ∨
      ∃ a ∈ run.queue.records, a.state = .opened ∧ q.id = a.id := fun q hq =>
    (hrest q hq).symm.imp_right fun hid => ⟨r, hr, ho, hid⟩
  rcases h q hq with hq | hid | ⟨a, ha, hao, hid⟩
  · exact (hback q hq).imp_right .inr
  · exact .inr (.inl (hid.trans hn))
  · rcases hback a ha with ha | ⟨b, hb, hbo, hb'⟩
    · exact .inr (.inr ⟨a, ha, hao, hid⟩)
    · exact .inr (.inr ⟨b, hb, hbo, hid.trans hb'⟩)

theorem extendRecord_touches {w : Work} {r : DefectRecord} (hr : r ∈ w.lane.run.queue.records)
    (ho : r.state = .opened) (n : Entry) (m : Measures) (d : Demand) :
    w.lane.run.TouchesOpen (extendRecord w r n m d).lane.run := by
  obtain ⟨⟨hid, -, -⟩, -, hnext, -⟩ := addEnergy_keeps w.lane.run (extended w.lane r n.pos d) m n.pos
  unfold extendRecord
  dsimp only
  generalize addEnergy w.lane.run (extended w.lane r n.pos d) m n.pos = a at *
  obtain ⟨r', det⟩ := a
  dsimp only at *
  have hput : ∀ q ∈ (w.lane.run.queue.update r').records, q.id = r.id ∨ q ∈ w.lane.run.queue.records :=
    fun q hq => (mem_update hq).imp (fun he => by rw [he]; exact hid) And.left
  have hclose : ∀ q ∈ ((w.lane.run.queue.update r').update { r' with state := .long }).records,
      q.id = r.id ∨ q ∈ w.lane.run.queue.records := fun q hq => by
    rcases mem_update hq with rfl | ⟨hq, -⟩
    · exact .inl hid
    · exact hput q hq
  split
  · split
    · exact .after hr ho hnext hclose (openAt_touches (w.setRun _) _ _ _ _)
    · exact .after hr ho hnext hclose (openRemainder_touches (w.setRun _) _ _ _)
  · exact .update hr ho hid rfl

theorem recordActions_touches (w : Work) (n : Entry) (m : Measures) (d : Demand) :
    w.lane.run.TouchesOpen (recordActions w n m d).lane.run := by
  unfold recordActions
  split
  case h_1 r hr =>
    obtain ⟨hr, ho⟩ := openRecord_mem hr
    split
    · exact extendRecord_touches hr ho _ _ _
    · obtain ⟨⟨hid, -, -⟩, -, -, -⟩ := addEnergy_keeps w.lane.run r m n.pos
      exact .update hr ho hid rfl
  case h_2 => exact openAt_touches _ _ _ _ _

/-- The closing test rewrites what is OPEN then. -/
theorem closingTest_touches {w : Work} {n : Pos} {q : DefectRecord}
    (hq : q ∈ (closingTest w n).lane.run.queue.records) :
    q ∈ w.lane.run.queue.records ∨ ∃ a ∈ w.lane.run.queue.records, a.state = .opened ∧ q.id = a.id := by
  unfold closingTest at hq
  split at hq
  case h_1 r hr =>
    obtain ⟨hr, ho⟩ := openRecord_mem hr
    split at hq
    · exact (mem_update hq).symm.imp And.left fun he => ⟨r, hr, ho, by rw [he]⟩
    · exact .inl hq
  case h_2 => exact .inl hq

/-- An examination rewrites the OPEN record, opens one record of the next id, and leaves the others
(R83, R90 to R95). -/
theorem examine_touches (w : Work) (n : Entry) : w.lane.run.TouchesOpen (examine w n).lane.run := by
  unfold examine
  split
  · exact .of_queue rfl
  · obtain ⟨m, c, v, det, rfl, he, -⟩ := examineEntry_eq w n
    rw [he]
    have hacted : w.lane.run.TouchesOpen _ :=
      recordActions_touches w.settled n m (demandOf w.settled.lane c m n)
    intro q hq
    rcases closingTest_touches hq with hq | ⟨a, ha, hao, hid⟩
    · exact hacted q hq
    · rw [hid]
      rcases hacted a ha with ha | hnext | hopen
      · exact .inr (.inr ⟨a, ha, hao, rfl⟩)
      · exact .inr (.inl hnext)
      · exact .inr (.inr hopen)

/-! ### What becomes of an abandoned record -/

/-- The record r stays ABANDONED, on its span, as long as the lane holds it. -/
def Run.Abandoned (run : Run) (r : DefectRecord) : Prop :=
  ∀ q ∈ run.queue.records, q.id = r.id → q.state = .abandoned ∧ q.start = r.start ∧ q.stop = r.stop

section Abandoned

variable {w : Work} {r : DefectRecord}

theorem Run.Abandoned.of_noNewRecords {w' : Work} (h : w.lane.run.Abandoned r) (k : w.NoNewRecords w') :
    w'.lane.run.Abandoned r := fun q hq => h q (k q hq)

theorem Run.Abandoned.examine (h : w.lane.run.Abandoned r) (hid : w.lane.run.detector.nextId ≠ r.id)
    (n : Entry) : (examine w n).lane.run.Abandoned r := fun q hq hqr => by
  rcases examine_touches w n q hq with hq | hnext | ⟨a, ha, hao, haq⟩
  · exact h q hq hqr
  · exact absurd (hnext.symm.trans hqr) hid
  · obtain ⟨has, -⟩ := h a ha (haq.symm.trans hqr)
    rw [hao] at has
    cases has

theorem Work.freed_abandoned (h : w.lane.run.Abandoned r) : w.freed.lane.run.Abandoned r := by
  cases hh : w.lane.run.holder with
  | none => rwa [show w.freed = w by simp only [Work.freed, hh]]
  | some a =>
    have hfreed : w.freed.lane.run = w.lane.run.abandon a := by simp [Work.freed, hh]
    obtain ⟨f, -, hrec, -⟩ := Run.holder_eq_some hh
    intro q hq hqr
    rw [hfreed, abandon_queue] at hq
    rcases mem_update hq with rfl | ⟨hq, -⟩
    · exact ⟨rfl, (h a (recordOf_mem hrec) hqr).2⟩
    · exact h q hq hqr

/-- The holder of the oldest entry is abandoned (R58). -/
theorem Work.freed_abandons (hh : w.lane.run.holder = some r) : w.freed.lane.run.Abandoned r := by
  have hfreed : w.freed.lane.run = w.lane.run.abandon r := by simp [Work.freed, hh]
  intro q hq hqr
  rw [hfreed, abandon_queue] at hq
  rcases mem_update hq with rfl | ⟨-, hne⟩
  · exact ⟨rfl, rfl, rfl⟩
  · exact absurd hqr hne

theorem makeRoomOnce_abandoned (h : w.freed.lane.run.Abandoned r) :
    (makeRoomOnce w).lane.run.Abandoned r := by
  rw [makeRoomOnce_eq]
  exact h.of_noNewRecords (depart_noNewRecords _)

@[simp] theorem makeRoomOnce_nextId (w : Work) :
    (makeRoomOnce w).lane.run.detector.nextId = w.lane.run.detector.nextId := by
  rw [makeRoomOnce_eq, depart_detector]
  unfold Work.freed Run.abandon Run.close
  split
  · simp only [Work.raise_lane, Lane.raise_run, Work.setRun_lane]
    split <;> rfl
  · rfl

end Abandoned

/-! ### A step of making room -/

/-- The record whose id an entry's link names, where ids are told apart (R48). -/
theorem Run.recordOf_split {run : Run} {e : Entry} {pre post : List DefectRecord} {r : DefectRecord}
    (h : run.queue.records = pre ++ r :: post) (hu : ∀ q ∈ pre ++ post, q.id ≠ r.id)
    (hl : e.link = some r.id) : run.recordOf e = some r := by
  unfold recordOf DefectQueue.find
  rw [hl, Option.bind_some, h, List.find?_append, List.find?_eq_none.2 fun q hq => by
    simpa using hu q (List.mem_append_left _ hq)]
  simp

theorem Run.holder_eq {run : Run} {e : Entry} {es : List Entry} (hw : run.ring.window = e :: es) :
    run.holder = (run.recordOf e).filter fun q => q.state.unresolved := by
  simp only [holder, hw]

/-- Without an unresolved record over the oldest entry, the entry departs at once (R58). -/
theorem makeRoomOnce_free {w : Work} (h : w.lane.run.holder = none) : makeRoomOnce w = depart w := by
  simp only [makeRoomOnce, h]

/-- The lane with the holder of its oldest entry abandoned, and OVERRUN raised (R58). -/
theorem freed_split {w : Work} {pre post : List DefectRecord} {r : DefectRecord}
    (hh : w.lane.run.holder = some r) (h : w.lane.run.queue.records = pre ++ r :: post)
    (hu : ∀ q ∈ pre ++ post, q.id ≠ r.id) :
    w.freed = { w with
      lane := { w.lane with
        latch := w.lane.latch ||| (0x20 &&& w.lane.mask)
        run := { w.lane.run with
          queue := { w.lane.run.queue with records := pre ++ { r with state := .abandoned } :: post }
          detector :=
            if r.state = .opened then
              { w.lane.run.detector with lastEnd := some r.stop, quietA := 0, quietB := 0 }
            else w.lane.run.detector } } } := by
  have hupdate := update_eq (r' := { r with state := .abandoned }) h hu rfl
  unfold Work.freed
  simp only [hh]
  by_cases ho : r.state = .opened
  · rw [Run.abandon_opened ho, Run.close, hupdate, if_pos ho]
    rfl
  · rw [Run.abandon_closed ho, hupdate, if_neg ho]
    rfl

/-! ### An entry event at a full ring -/

/-- A raised condition stands in the latch where the mask has its bit, and what comes after raises no other
under it (R172). -/
theorem latch_of_raise {a b v : Work} {c : Condition} (hraise : b.lane.latch = (a.raise c).lane.latch)
    (hkeep : b.Keeps v) (hmask : a.LatchesByMask v) :
    v.lane.latch &&& c.bit = a.lane.latch &&& c.bit ||| (a.lane.mask &&& c.bit) := by
  have hgrow := hkeep.latch
  rw [hraise, Work.raise_lane, Lane.raise_latch] at hgrow
  ext i hi
  have hgrow' := congrArg (fun x : BitVec 8 => x[i]) hgrow
  have hmask' := congrArg (fun x : BitVec 8 => x[i]) hmask.latch
  simp only [BitVec.getElem_and, BitVec.getElem_or, BitVec.getElem_not] at hgrow' hmask' ⊢
  revert hgrow' hmask'
  generalize a.lane.latch[i] = x, v.lane.latch[i] = y, c.bit[i] = z, a.lane.mask[i] = u
  revert x y z u
  decide

theorem iterate_makeRoomOnce_latches (n : Nat) (w : Work) : w.LatchesByMask (makeRoomOnce^[n] w) := by
  induction n with
  | zero => exact .refl w
  | succ n ih => rw [Function.iterate_succ_apply']; exact ih.trans (makeRoomOnce_latches _)

theorem iterate_makeRoomOnce_keeps (n : Nat) (w : Work) : w.Keeps (makeRoomOnce^[n] w) := by
  induction n with
  | zero => exact .refl w
  | succ n ih => rw [Function.iterate_succ_apply']; exact ih.trans (makeRoomOnce_keeps _).1

theorem iterate_makeRoomOnce_nextId (n : Nat) (w : Work) :
    (makeRoomOnce^[n] w).lane.run.detector.nextId = w.lane.run.detector.nextId := by
  induction n with
  | zero => rfl
  | succ n ih => rw [Function.iterate_succ_apply', makeRoomOnce_nextId, ih]

theorem iterate_makeRoomOnce_abandoned (n : Nat) {w : Work} {r : DefectRecord}
    (h : w.lane.run.Abandoned r) : (makeRoomOnce^[n] w).lane.run.Abandoned r := by
  induction n with
  | zero => exact h
  | succ n ih =>
    rw [Function.iterate_succ_apply']
    exact makeRoomOnce_abandoned (Work.freed_abandoned ih)

/-- An entry event once what making room leaves is known (R49). -/
theorem entryEvent_of_room {w v : Work} {o : Output}
    (h : makeRoom (indexOutput w o).lane.run.ring.window.length (indexOutput w o) = v) :
    entryEvent w o =
      let e := newEntry v.lane.run.queue o (indicesOf w.lane o) (workingValue w.lane o (indicesOf w.lane o))
      departureTest (examine (placeEntry v e) e) := by
  subst h
  rfl

/-- Stages 2 to 4 of an entry event (R49). -/
theorem enter_latches (w : Work) (e : Entry) :
    w.LatchesByMask (departureTest (examine (placeEntry w e) e)) := by
  have hplaced : w.LatchesByMask (placeEntry w e) := (Work.LatchesByMask.setRun (.refl w) _).count _
  exact (hplaced.trans (examine_latches _ e)).trans (departureTest_latches _)

theorem enter_keeps (w : Work) (e : Entry) :
    w.Keeps (departureTest (examine (placeEntry w e) e)) :=
  (((placeEntry_keeps w e).trans (examine_keeps _ e)).trans (departureTest_keeps _)).1

theorem enter_abandoned {w : Work} {r : DefectRecord} (h : w.lane.run.Abandoned r)
    (hid : w.lane.run.detector.nextId ≠ r.id) (e : Entry) :
    (departureTest (examine (placeEntry w e) e)).lane.run.Abandoned r := by
  have hplaced : (placeEntry w e).lane.run.Abandoned r := fun q hq => h q (by rwa [placeEntry_queue] at hq)
  have hnext : (placeEntry w e).lane.run.detector.nextId ≠ r.id := by simpa [placeEntry] using hid
  exact (hplaced.examine hnext e).of_noNewRecords (departureTest_noNewRecords _)

/-- An output's indices touch neither queue nor detector, neither latch nor mask. -/
theorem indexOutput_queue (w : Work) (o : Output) :
    (indexOutput w o).lane.run.queue = w.lane.run.queue ∧
      (indexOutput w o).lane.run.detector = w.lane.run.detector ∧
      (indexOutput w o).lane.latch = w.lane.latch ∧ (indexOutput w o).lane.mask = w.lane.mask := by
  unfold indexOutput
  dsimp only
  split <;> exact ⟨rfl, rfl, rfl, rfl⟩

/-- Steps of making room that begin at an entry a record r holds, and the stages after them: OVERRUN stands,
and r stays ABANDONED (R58, R60). -/
theorem enter_after_overrun {w : Work} {r : DefectRecord} (hh : w.lane.run.holder = some r)
    (hid : w.lane.run.detector.nextId ≠ r.id) (n : Nat) (e : Entry) {v : Work}
    (hv : v = departureTest (examine (placeEntry (makeRoomOnce^[n + 1] w) e) e)) :
    v.lane.latch &&& 0x20 = w.lane.latch &&& 0x20 ||| (w.lane.mask &&& 0x20) ∧
      v.lane.run.Abandoned r := by
  have hraise : w.freed.lane.latch = (w.raise .overrun).lane.latch := by
    simp [Work.freed, hh]
  have hkeep : w.freed.Keeps v := by
    rw [hv, Function.iterate_succ_apply, makeRoomOnce_eq]
    exact ((depart_keeps _).1.trans (iterate_makeRoomOnce_keeps n _)).trans (enter_keeps _ e)
  refine ⟨latch_of_raise (c := .overrun) hraise hkeep ?_, ?_⟩
  · rw [hv]
    exact (iterate_makeRoomOnce_latches _ _).trans (enter_latches _ e)
  · rw [hv]
    refine enter_abandoned ?_ (by rwa [iterate_makeRoomOnce_nextId]) e
    rw [Function.iterate_succ_apply]
    exact iterate_makeRoomOnce_abandoned n (makeRoomOnce_abandoned (Work.freed_abandons hh))

end Sys2Proof.Machine

namespace Sys2Proof.Settled

open Sys2Proof.Machine

/-- Settles O36: the steps of making room by `makeRoom_full`, one of them by `freed_split`, and OVERRUN and
the abandoned record after them by `enter_after_overrun`. -/
theorem overrunMakesRoom : Obligations.OverrunMakesRoom := by
  refine ⟨fun n w h => makeRoom_of_room h n, fun x e => ?_, fun w e es hw => ⟨fun hres => ?_, ?_⟩, ?_⟩
  · refine ⟨x.lane.count _, count_counts _ _, ?_⟩
    simp only [placeEntry, Work.count, Work.setLane, Work.setRun, count_withRun, Ring.fill,
      List.length_append, List.length_singleton]
    rfl
  · refine makeRoomOnce_free ?_
    rw [Run.holder_eq hw, Option.filter_eq_none_iff]
    intro r hr
    obtain ⟨id, hlink, hfind⟩ := Option.bind_eq_some_iff.1 hr
    have hid : r.id = id := by simpa using List.find?_some hfind
    simpa using RecordState.not_unresolved_iff.2
      (hres r (List.mem_of_find?_eq_some hfind) (by rw [hlink, hid]))
  · intro pre post r hsplit hu hlink hstate
    have hholder : w.lane.run.holder = some r := by
      rw [Run.holder_eq hw, Run.recordOf_split hsplit hu hlink]
      simp [Option.filter, RecordState.unresolved_iff.2 hstate]
    rw [makeRoomOnce_eq, freed_split hholder hsplit hu]
  · rintro w o n x e htail hfull rfl rfl rfl
    obtain ⟨hqueue, hdetector, hlatch, hmask⟩ := indexOutput_queue w o
    have hring := indexOutput_ring w o
    obtain ⟨hroom, hfill⟩ := makeRoom_full (w := indexOutput w o) (by rwa [hring])
      (by rw [hring]; exact hfull)
    rw [hring] at hfill
    rw [congrArg (fun g : Ring => 9 - g.tail.length) hring] at hroom
    have hevent := entryEvent_of_room hroom
    refine ⟨hevent, hfill, fun f pre post r hf hlink hsplit hu hid hstate => ?_⟩
    obtain ⟨es, hw⟩ : ∃ es, w.lane.run.ring.window = f :: es := by
      cases hw : w.lane.run.ring.window with
      | nil => rw [hw] at hf; cases hf
      | cons g es => rw [hw, List.head?_cons, Option.some.injEq] at hf; exact ⟨es, by rw [hf]⟩
    have hholder : (indexOutput w o).lane.run.holder = some r := by
      rw [Run.holder_eq (by rw [hring, hw]), Run.recordOf_split (by rw [hqueue]; exact hsplit) hu hlink]
      simp [Option.filter, RecordState.unresolved_iff.2 hstate]
    obtain ⟨m, hm⟩ : ∃ m, 9 - w.lane.run.ring.tail.length = m + 1 :=
      ⟨8 - w.lane.run.ring.tail.length, by omega⟩
    rw [hm] at hevent
    have := enter_after_overrun hholder (by rwa [hdetector]) m _ hevent
    rwa [hlatch, hmask] at this

end Sys2Proof.Settled

/-! # Departing and restored values

The departing value by the record's state, and the reducer's update at a departure by its floor mode.
Settles O37. -/

namespace Sys2Proof.Machine

/-- The least level of a floor run with the present one (R132). -/
def HissReducer.leastLevel (h : HissReducer) : Int := h.runMin.elim h.level (min h.level)

section Floor

variable (h : HissReducer) (value : Int) (rise : Nat)

/-- In TRACK the present level joins the run's minimum, and the 256th departure of a run ends it with the
floor's update (R132). -/
theorem HissReducer.updateFloor_track :
    h.updateFloor 0 value rise =
      if h.runCount < 255 then
        ({ h with runCount := h.runCount + 1, runMin := some h.leastLevel }, false)
      else ({ h with floor := riseFloor h.floor h.leastLevel rise, runCount := 0, runMin := none }, true) := by
  have hleast (m : Int) : (if h.level < m then h.level else m) = min h.level m := by split <;> omega
  have hrun : h.runCount + 1 < Config.floorRun ↔ h.runCount < 255 := Nat.succ_lt_succ_iff
  unfold updateFloor leastLevel
  simp only [if_true, hrun, hleast]
  cases h.runMin <;> rfl

/-- HOLD keeps the floor (R133). -/
theorem HissReducer.updateFloor_hold :
    h.updateFloor 1 value rise = ({ h with runCount := 0, runMin := none }, false) := rfl

/-- FIXED sets the floor (R133). -/
theorem HissReducer.updateFloor_fixed :
    h.updateFloor 2 value rise = ({ h with floor := value, runCount := 0, runMin := none }, false) := rfl

end Floor

/-- The reducer's stage of a departure: the reducer after it, and the row of a floor run that ends (R53). -/
theorem hissDepart_eq (w : Work) (xd : Int) :
    hissDepart w xd =
      { w with
        lane := { w.lane with run := { w.lane.run with hiss := (reduceHiss w.lane xd).1 } }
        trace := if (reduceHiss w.lane xd).2 = true then .floorUpdate :: w.trace else w.trace } := by
  unfold hissDepart Work.noteIf
  split <;> rfl

/-- An entry of a LONG record departs by LONG_POLICY, unless it is REPAIRED (R54). -/
theorem departingValue_of_long (l : Lane) {e : Entry} {r : DefectRecord} (h : e.repaired = false)
    (hs : r.state = .long) :
    departingValue l e (some r) = longValue (l.params.get .longPolicy) e.w := by
  simp [departingValue, h, hs]

/-- An entry of an ABANDONED record departs by OVERRUN_POLICY, unless it is REPAIRED (R54). -/
theorem departingValue_of_abandoned (l : Lane) {e : Entry} {r : DefectRecord} (h : e.repaired = false)
    (hs : r.state = .abandoned) :
    departingValue l e (some r) = overrunValue (l.params.get .overrunPolicy) e.w := by
  simp [departingValue, h, hs]

theorem departingValue_of_repaired (l : Lane) {e : Entry} (r : Option DefectRecord)
    (h : e.repaired = true) : departingValue l e r = e.w := by
  simp only [departingValue, h, if_true]

end Sys2Proof.Machine

namespace Sys2Proof.Settled

open Sys2Proof.Machine

/-- Settles O37: each floor mode has its equation of `updateFloor`, and band split, level and gain are the
same in all. -/
theorem departingAndRestoredValues : Obligations.DepartingAndRestoredValues := by
  refine ⟨fun l e r => ⟨by simp [departingValue], departingValue_of_repaired l _, fun he hs => ?_,
    fun he hs => ?_⟩, ?_, fun h xd => ⟨?_, rfl⟩⟩
  · rw [departingValue_of_long l he hs]
    refine ⟨fun hp => ?_, fun hp => ?_, fun hp => ?_⟩ <;> simp [longValue, floorDiv, hp]
  · rw [departingValue_of_abandoned l he hs]
    refine ⟨fun hp => ?_, fun hp => ?_⟩ <;> simp [overrunValue, hp]
  · rintro w xd lp v lv n gs count m ended h rfl hlp hv hlv htrack htracked hhold hfixed hlow hhigh hgs
    have hsplit : w.lane.run.hiss.split xd (w.p .hissSplit).toNat (w.p .hissAttack).toNat
        (w.p .hissRelease).toNat = { w.lane.run.hiss with lp := lp, level := lv } := by
      rw [hlv, hv, hlp]
      rfl
    have hfloor : ({ w.lane.run.hiss with lp := lp, level := lv } : HissReducer).updateFloor
        (w.p .floorMode) (w.p .floorValue) (w.p .floorRise).toNat =
          (⟨lp, lv, n, w.lane.run.hiss.gain, count, m⟩, ended) := by
      have hmode : w.p .floorMode = 0 ∨ w.p .floorMode = 1 ∨ w.p .floorMode = 2 := by omega
      rcases hmode with hmode | hmode | hmode
      · rw [hmode]
        rcases Nat.lt_or_ge w.lane.run.hiss.runCount 255 with hc | hc
        · obtain ⟨rfl, rfl, rfl, rfl⟩ := htrack hmode hc
          rw [HissReducer.updateFloor_track, if_pos hc]
          rfl
        · obtain ⟨rfl, rfl, rfl, rfl⟩ := htracked hmode hc
          rw [HissReducer.updateFloor_track, if_neg (Nat.not_lt.2 hc)]
          rfl
      · obtain ⟨rfl, rfl, rfl, rfl⟩ := hhold hmode
        rw [hmode, HissReducer.updateFloor_hold]
      · obtain ⟨rfl, rfl, rfl, rfl⟩ := hfixed hmode
        rw [hmode, HissReducer.updateFloor_fixed]
    have hreduce : reduceHiss w.lane xd = (⟨lp, lv, n, gs, count, m⟩, ended) := by
      unfold reduceHiss
      dsimp only [Work.p] at hsplit hfloor ⊢
      rw [hsplit, hfloor, hgs]
      rfl
    rw [hissDepart_eq, hreduce]
  · simp only [restored, if_true, restore, clamp24, clampTo, floorDiv]

end Sys2Proof.Settled

/-! # Retirement

What a retirement counts, the bytes of its report and what the offer of it leaves, and the order of a
departure's stages. Settles O45. -/

namespace Sys2Proof.Machine

/-! ### The report of a record -/

theorem Causes.code_eq (c : Causes) : c.code = causesByte c := by
  obtain ⟨a, b, s, p⟩ := c
  revert a b s p
  decide

/-- The bytes of the repair kind and clean half, which a record that is not REPAIRED reports as absent
(R101). -/
theorem repairBytes_eq (kind : Option RepairKind) (half : Option Half) :
    [kindCode kind, halfCode half] = repairBytes kind half := by
  rcases kind with _ | (_ | _) <;> rcases half with _ | (_ | _) <;> rfl

/-- The payload of a defect report (R101). -/
theorem defectReport_payload (l : LaneId) (segId : BitVec 16) (r : DefectRecord) :
    (defectReport l segId r).payload =
      be 2 segId.toNat ++ be 2 r.id.toNat ++ be 4 r.start.toNat ++ be 2 ((r.stop - r.start).toNat + 1) ++
        [causesByte r.causes, r.state.code] ++
        (if r.state = .repaired then repairBytes r.kind (if r.kind = some .half then r.cleanHalf else none)
          else [0, 0]) ++ be 4 r.peak := by
  have hrepair : [kindCode (if r.state = .repaired then r.kind else none),
      halfCode (if (if r.state = .repaired then r.kind else none) = some .half then r.cleanHalf else none)] =
        if r.state = .repaired then repairBytes r.kind (if r.kind = some .half then r.cleanHalf else none)
        else [0, 0] := by
    rw [repairBytes_eq]
    split <;> rfl
  simp only [defectReport, ← hrepair, Causes.code_eq, spanLength, List.append_assoc, List.cons_append,
    List.nil_append]

theorem defectReport_length (l : LaneId) (segId : BitVec 16) (r : DefectRecord) :
    (defectReport l segId r).payload.length = 18 := by
  simp [defectReport, be_length]

/-! ### What a retirement leaves -/

/-- What a retiring record adds to the report of the RUNNING segment (R100). -/
theorem Report.retired_eq {r : DefectRecord}
    (h : r.state = .repaired ∨ r.state = .long ∨ r.state = .abandoned) (q : Report) :
    q.retired r = { q with
      repairedInterpolate :=
        if r.state = .repaired ∧ r.kind ≠ some .half then min (q.repairedInterpolate + 1) 4294967295
        else q.repairedInterpolate
      repairedHalf :=
        if r.state = .repaired ∧ r.kind = some .half then min (q.repairedHalf + 1) 4294967295
        else q.repairedHalf
      long := if r.state = .long then min (q.long + 1) 4294967295 else q.long
      abandoned := if r.state = .abandoned then min (q.abandoned + 1) 4294967295 else q.abandoned
      impulse := if r.causes.impulse = true then min (q.impulse + 1) 4294967295 else q.impulse
      asymmetry := if r.causes.asymmetry = true then min (q.asymmetry + 1) 4294967295 else q.asymmetry
      sensor := if r.causes.sensor = true then min (q.sensor + 1) 4294967295 else q.sensor
      splice := if r.causes.splice = true then min (q.splice + 1) 4294967295 else q.splice } := by
  have hbump (n : Nat) : bump n = min (n + 1) 4294967295 := rfl
  rcases h with h | h | h
  · rcases hk : r.kind with _ | (_ | _) <;> simp [retired, h, hk, hbump]
  · simp [retired, h, hbump]
  · simp [retired, h, hbump]

theorem DefectQueue.remove_eq (q : DefectQueue) (id : RecordId) :
    q.remove id = ⟨q.records.filter fun o => decide (o.id ≠ id),
      q.fullNotice && decide (32 ≤ (q.records.filter fun o => decide (o.id ≠ id)).length)⟩ := by
  have hroom (n : Nat) : (!decide (n < Config.queueCapacity)) = decide (32 ≤ n) := by
    rw [← decide_not]
    exact decide_eq_decide.2 Nat.not_lt
  simp only [remove, hroom]

/-- A count where the running slot is known (R154). -/
theorem Work.count_running {w : Work} {i : SlotId} {d : Descriptor} {r : Report} {q : Bool} {m : Nat}
    (hi : w.lane.runningSlot = some i) (hs : w.lane.slot i = .running d r q m) (f : Report → Report) :
    w.count f = { w with lane := w.lane.setSlot i (.running d (f r) q m) } :=
  congrArg w.setLane (Lane.count_running hi hs f)

theorem Lane.setSlot_withRun (l : Lane) (i : SlotId) (x : Slot) (r : Run) :
    ({ l.setSlot i x with run := r } : Lane) = ({ l with run := r } : Lane).setSlot i x := by
  cases i <;> rfl

theorem Lane.runningSlot_setSlot {l : Lane} {i : SlotId} (h : l.runningSlot = some i) {x : Slot}
    (hx : x.isRunning = true) : (l.setSlot i x).runningSlot = some i := by
  rw [Lane.runningSlot_eq_some] at h ⊢
  obtain ⟨-, hb⟩ := h
  refine ⟨by rwa [Lane.slot_setSlot_same], fun hi => ?_⟩
  subst hi
  exact hb rfl

section Retires

variable {w : Work} {r : DefectRecord} {i : SlotId} {d : Descriptor} {q : Report} {req : Bool} {m : Nat}
  (hi : w.lane.runningSlot = some i) (hs : w.lane.slot i = .running d q req m)
include hi hs

/-- A retirement in a segment that asks for no report (R100). -/
theorem retire_silent (hd : d.reports = false) :
    retire w (some d) r = { w with
      lane := ({ w.lane with run := { w.lane.run with queue := w.lane.run.queue.remove r.id } } : Lane).setSlot
        i (.running d (q.retired r) req m) } := by
  simp only [retire, hd, Bool.false_eq_true, if_false, Work.count_running hi hs]
  simp only [Work.setRun, Work.setLane, Lane.setSlot_run, Lane.setSlot_withRun]

/-- A retirement whose report enters (R100, R101). -/
theorem retire_reported (hd : d.reports = true) (hroom : usedBytes w.outbound + 25 + 4096 ≤ 65536) :
    retire w (some d) r = { w with
      lane := ({ w.lane with run := { w.lane.run with queue := w.lane.run.queue.remove r.id } } : Lane).setSlot
        i (.running d (q.retired r) req m)
      outbound := w.outbound ++ [defectReport w.id d.segId r] } := by
  have hfits : fitsReserve w.outbound (defectReport w.id d.segId r) = true := by
    rw [fitsReserve_iff, defectReport_length]
    exact hroom
  simp only [retire, hd, if_true, Work.count_running hi hs, offerReport, hfits]
  simp only [Work.enqueue, Work.setRun, Work.setLane, Lane.setSlot_run, Lane.setSlot_withRun]

/-- A retirement whose report is dropped (R100, R101). -/
theorem retire_dropped (hd : d.reports = true) (hroom : 65536 < usedBytes w.outbound + 25 + 4096) :
    retire w (some d) r = { w with
      lane :=
        { ({ w.lane with run := { w.lane.run with queue := w.lane.run.queue.remove r.id } } : Lane).setSlot i
            (.running d { q.retired r with
              reportsDropped := min ((q.retired r).reportsDropped + 1) 4294967295 } req m) with
          latch := w.lane.latch ||| (0x80 &&& w.lane.mask) } } := by
  have hfits : fitsReserve w.outbound (defectReport w.id d.segId r) = false := by
    rw [← Bool.not_eq_true, fitsReserve_iff, defectReport_length]
    omega
  have hrunning := Lane.runningSlot_setSlot hi (x := .running d (q.retired r) req m) rfl
  have hslot := w.lane.slot_setSlot_same i (.running d (q.retired r) req m)
  simp only [retire, hd, if_true, Work.count_running hi hs, offerReport, hfits, Bool.false_eq_true, if_false]
  rw [Work.count_running (w := { w with lane := w.lane.setSlot i (.running d (q.retired r) req m) })
    hrunning hslot]
  cases i <;> rfl

end Retires

/-! ### The order of a departure -/

/-- Stage 1 of a departure: the oldest entry passed to the tail (R53). -/
def Work.passed (w : Work) (e : Entry) (es : List Entry) : Work :=
  w.setRun { w.lane.run with ring := w.lane.run.ring.passToTail e es }

theorem depart_eq {w : Work} {e : Entry} {es : List Entry} (h : w.lane.run.ring.window = e :: es) :
    depart w = departStages (w.passed e es) { e with departed := true } (w.lane.run.recordOf e) := by
  simp only [depart, h]
  rfl

/-- Stages 2 to 6, with HISS_ON and the departing value as they are before them (R53). -/
theorem departStages_eq (w : Work) (e : Entry) (r : Option DefectRecord) {v : Work}
    (hv : v = hissDepart (humDepart w e) (departingValue w.lane e r)) :
    departStages w e r =
      retireAt (judge v e (restored v.lane.run.hiss (w.p .hissOn) (departingValue w.lane e r))) e r := by
  have hparams : v.lane.params = w.lane.params := by
    rw [hv]
    exact ((humDepart_keeps _ _).trans (hissDepart_keeps _ _)).1.params
  rw [Work.p, ← hparams]
  subst hv
  rfl

end Sys2Proof.Machine

namespace Sys2Proof.Settled

open Sys2Proof.Machine

/-- Settles O45: a retirement by what its report's offer can do, and a departure by its stages. -/
theorem retirementCountsReportsRemoves : Obligations.RetirementCountsReportsRemoves := by
  refine ⟨fun w r queue hqueue => ⟨fun hnone => ?_, ?_⟩, ?_⟩
  · rw [hqueue, ← DefectQueue.remove_eq]
    have hcount : w.count (Report.retired r) = w :=
      congrArg w.setLane ((count_counts w.lane (Report.retired r)).1 hnone)
    simp only [retire, hcount]
    rfl
  · rintro i d q q' req m x bytes hi hs hstate hq' rfl rfl
    rw [← Report.retired_eq hstate] at hq'
    rw [← DefectQueue.remove_eq] at hqueue
    subst hq' hqueue
    refine ⟨retire_silent hi hs, fun hd hroom => ?_, retire_dropped hi hs⟩
    rw [retire_reported hi hs hd hroom, ← defectReport_payload w.id d.segId r]
    rfl
  · rintro w w₁ w₄ w₅ e e' es r xd hw rfl rfl hw₁ rfl rfl rfl
    have hpassed : w₁ = w.passed e es := by
      rw [hw₁, ← Ring.passToTail_tail w.lane.run.ring e es]
      rfl
    subst hpassed
    rw [depart_eq hw, departStages_eq _ _ _ rfl]
    rfl

end Sys2Proof.Settled

/-! # The load of a job

Which lane and which bank a load takes, what it copies of the lane, and the context of a position.
Settles O54. -/

namespace Sys2Proof.Machine

/-! ### What a load finds -/

theorem exec_jobLoad (s : State) : exec .jobLoad s = .next (if s.resetHeld then s else loadJob s) := rfl

theorem Lane.eligible_eq_false_iff {l : Lane} :
    l.eligible = false ↔ ∀ r ∈ l.run.queue.records, r.state ≠ .queued := by
  simp [eligible, DefectQueue.oldestQueued, List.find?_eq_none]

theorem oldestQueued_split {q : DefectQueue} {pre post : List DefectRecord} {r : DefectRecord}
    (h : q.records = pre ++ r :: post) (hr : r.state = .queued) (hpre : ∀ o ∈ pre, o.state ≠ .queued) :
    q.oldestQueued = some r := by
  unfold DefectQueue.oldestQueued
  rw [h, List.find?_eq_some_iff_append]
  exact ⟨by simp [hr], pre, post, rfl, fun o ho => by simpa using hpre o ho⟩

/-- The search passes the lanes that lie nearer behind the pointer than l (R109). -/
theorem searchOrder_split (p l : LaneId) :
    searchOrder p = (searchOrder p).take (l - p - 1).val ++ l :: (searchOrder p).drop ((l - p - 1).val + 1) ∧
      ∀ m ∈ (searchOrder p).take (l - p - 1).val, (m - p - 1).val < (l - p - 1).val := by
  revert p l
  decide

/-- The first eligible lane after the pointer is served (R109). -/
theorem laneToServe_eq {s : State} {l : LaneId} (hl : (s.lanes[l]).eligible = true)
    (hnearer : ∀ m : LaneId, (m - s.engine.pointer - 1).val < (l - s.engine.pointer - 1).val →
      (s.lanes[m]).eligible = false) : s.laneToServe = some l := by
  obtain ⟨hsplit, hbefore⟩ := searchOrder_split s.engine.pointer l
  unfold State.laneToServe
  rw [List.find?_eq_some_iff_append]
  exact ⟨hl, _, _, hsplit, fun m hm => by simpa using hnearer m (hbefore m hm)⟩

theorem laneToServe_eq_none {s : State} (h : ∀ l : LaneId, (s.lanes[l]).eligible = false) :
    s.laneToServe = none := by
  unfold State.laneToServe
  rw [List.find?_eq_none]
  exact fun l _ => by simpa using h l

/-- The EMPTY bank is filled, Bank 0 first (R109). -/
theorem Engine.bankToFill_eq {e : Engine} {b : BankId} (hb : e.banks[b] = .empty)
    (hfirst : b = 1 → e.banks[0] ≠ .empty) : e.bankToFill = some b := by
  unfold bankToFill
  match b with
  | 0 => exact if_pos hb
  | 1 => rw [if_neg (hfirst rfl)]; exact if_pos hb

theorem Engine.bankToFill_eq_none {e : Engine} (h0 : e.banks[0] ≠ .empty) (h1 : e.banks[1] ≠ .empty) :
    e.bankToFill = none := by
  rw [bankToFill, if_neg h0, if_neg h1]

theorem otherBank_eq (b : BankId) : otherBank b = 1 - b := by
  revert b
  decide

/-- A load of a lane's oldest QUEUED record into a bank (R109, R111, R113). -/
theorem loadJob_eq {s : State} {b : BankId} {l : LaneId} {r : DefectRecord}
    (hb : s.engine.bankToFill = some b) (hl : s.laneToServe = some l)
    (hr : (s.lanes[l]).run.queue.oldestQueued = some r) {runs : Bool}
    (hruns : runs = !(s.engine.banks[1 - b]).isRunning) :
    loadJob s =
      (s.setLane l { s.lanes[l] with run := { (s.lanes[l]).run with
        queue := (s.lanes[l]).run.queue.update (loadedRecord s.lanes[l] r b runs) } }).setEngine
        { s.engine.setBank b
            (if runs then .running (jobOf l s.lanes[l] r) else .loaded (jobOf l s.lanes[l] r)) with
          pointer := l } := by
  subst hruns
  simp only [loadJob, hb, hl, hr, otherBank_eq]

/-! ### What a load copies -/

/-- The working value held at a position, the oldest there (R57). -/
theorem Ring.workingAt_split {g : Ring} {pre post : List Entry} {e : Entry} {p : Pos}
    (h : g.tail ++ g.window = pre ++ e :: post) (he : e.pos = p) (hpre : ∀ f ∈ pre, f.pos ≠ p) :
    g.workingAt p = e.w := by
  unfold workingAt
  have hfind : (g.tail ++ g.window).find? (fun e => e.pos == p) = some e := by
    rw [h, List.find?_eq_some_iff_append]
    exact ⟨by simpa using he, pre, post, rfl, fun f hf => by simpa using hpre f hf⟩
  rw [hfind]
  rfl

theorem Ring.workingAt_absent {g : Ring} {p : Pos} (h : ∀ e ∈ g.tail ++ g.window, e.pos ≠ p) :
    g.workingAt p = 0 := by
  unfold workingAt
  rw [List.find?_eq_none.2 fun e he => by simpa using h e he]
  rfl

theorem Ring.context_getElem? (g : Ring) (first : Pos) {n i : Nat} (h : i < n) :
    (g.context first n)[i]? = some (g.workingAt (first + BitVec.ofNat 32 i)) := by
  simp [context, posAdd, h, ← List.map_eq_flatMap]

/-- The clean half of a HALF repair, and none of an INTERPOLATE one (R112). -/
theorem chooseKind_eq {l : Lane} {r : DefectRecord} {half : Bool}
    (h : half = decide (l.params.get .railMode = 1 ∧ l.params.get .halfRepair = 1 ∧
      r.causes.asymmetry = true ∧ r.causes.sensor = false ∧ r.causes.splice = false)) :
    chooseKind l r = if half = true then some (if r.sumA ≤ r.sumB then .a else .b) else none := by
  unfold chooseKind
  simp only [h, decide_eq_true_eq]

theorem loadedRecord_eq {l : Lane} {r : DefectRecord} {half : Bool} {k : Half} (b : BankId) (runs : Bool)
    (h : chooseKind l r = if half = true then some k else none) :
    loadedRecord l r b runs = { r with
      kind := some (if half = true then .half else .interpolate)
      cleanHalf := if half = true then some k else none
      holding := some b
      state := if runs = true then .inRepair else .loaded } := by
  unfold loadedRecord
  rw [h]
  cases half <;> rfl

/-- The payload of a span's entry takes the clean half's value (R111). -/
theorem halfItem_eq (c : Prop) [Decidable c] (e : Entry) :
    halfItem (if c then .a else .b) e =
      (e.x, e.w, (e.halves.map fun v => if c then v.a else v.b).getD 0) := by
  by_cases hc : c <;> simp [halfItem, hc]

/-- The job of a record, by its kind (R111, R112). -/
theorem jobOf_eq {id : LaneId} {l : Lane} {r : DefectRecord} {half : Bool} {k : Half}
    (h : chooseKind l r = if half = true then some k else none) :
    jobOf id l r =
      { lane := id, runNumber := l.runNumber, recordId := r.id
        gap := (r.stop - r.start).toNat + 1
        work :=
          if half = true then
            .half k ((l.run.ring.window.filter fun e : Entry =>
              decide ((e.pos - r.start).toNat ≤ (r.stop - r.start).toNat)).map (halfItem k))
          else
            .interpolate (l.run.ring.context (r.start - 8) 8) (l.run.ring.context (r.stop + 1) 8)
              l.predictor } := by
  unfold jobOf
  rw [h]
  cases half
  · have hleft : posAdd r.start (-8) = r.start - 8 := by
      rw [posAdd, BitVec.sub_eq_add_neg]
      rfl
    rw [hleft]
    rfl
  · rfl

end Sys2Proof.Machine

namespace Sys2Proof.Settled

open Sys2Proof.Machine

/-- Settles O54: the load finds the lane and the bank of the statement, and its record and job are those. -/
theorem jobLoadServesNextLane : Obligations.JobLoadServesNextLane := by
  refine ⟨fun s h => ?_, fun g first n i => ⟨by simp [Ring.context], fun hi habsent => ?_,
    fun pre post e hi hsplit he hpre => ?_⟩, ?_⟩
  · have hnothing : loadJob s = s := by
      rcases h with ⟨h0, h1⟩ | hnone
      · simp only [loadJob, Engine.bankToFill_eq_none h0 h1]
      · have hserve := laneToServe_eq_none fun l => Lane.eligible_eq_false_iff.2 (hnone l)
        simp only [loadJob, hserve]
        cases s.engine.bankToFill <;> rfl
    rw [exec_jobLoad, hnothing, ite_self]
  · rw [Ring.context_getElem? g first hi, Ring.workingAt_absent habsent]
  · rw [Ring.context_getElem? g first hi, Ring.workingAt_split hsplit he fun f hf => he ▸ hpre f hf]
  · rintro s b l pre post r r' half j hreset hbank hfirst hsplit hqueued hpre hu hnearer hhalf rfl rfl
    have hoccurs := oldestQueued_split hsplit hqueued hpre
    have heligible : (s.lanes[l]).eligible = true := Option.isSome_iff_exists.2 ⟨r, hoccurs⟩
    have hserve := laneToServe_eq heligible fun m hm => Lane.eligible_eq_false_iff.2 (hnearer m hm)
    have hkind := chooseKind_eq hhalf
    rw [exec_jobLoad, if_neg (by simp [hreset]),
      loadJob_eq (Engine.bankToFill_eq hbank hfirst) hserve hoccurs rfl, loadedRecord_eq _ _ hkind,
      jobOf_eq hkind, update_eq hsplit hu]
    · simp only [← halfItem_eq]
      cases (s.engine.banks[1 - b]).isRunning <;> rfl
    · rfl

end Sys2Proof.Settled

/-! # The events of a departure after a write-back

What the departure of an uncovered entry does to the reducer, the templates and the segment slots, and the
write-back that departs one entry. Settles O53. -/

namespace Sys2Proof.Machine

/-! ### The judgement and the templates -/

/-- From w to w' both templates stay. -/
structure Work.SameTemplates (w w' : Work) : Prop where
  sprocket : w'.lane.sprocket = w.lane.sprocket
  line : w'.lane.line = w.lane.line

theorem Work.SameTemplates.refl (w : Work) : w.SameTemplates w := ⟨rfl, rfl⟩

theorem Work.SameTemplates.trans {a b c : Work} (h : a.SameTemplates b) (k : b.SameTemplates c) :
    a.SameTemplates c := ⟨k.sprocket.trans h.sprocket, k.line.trans h.line⟩

theorem Work.SameTemplates.count {a w : Work} (h : a.SameTemplates w) (f : Report → Report) :
    a.SameTemplates (w.count f) := h.trans ⟨by simp, by simp⟩

theorem Work.SameTemplates.setRun {a w : Work} (h : a.SameTemplates w) (r : Run) :
    a.SameTemplates (w.setRun r) := h.trans ⟨rfl, rfl⟩

theorem Work.SameTemplates.ite {a x y : Work} {c : Prop} [Decidable c] (hx : a.SameTemplates x)
    (hy : a.SameTemplates y) : a.SameTemplates (if c then x else y) := by
  split <;> assumption

theorem Work.SameTemplates.setSlot {a w : Work} (h : a.SameTemplates w) (i : SlotId) (x : Slot) :
    a.SameTemplates (w.setLane (w.lane.setSlot i x)) := h.trans ⟨by simp, by simp⟩

theorem Work.SameTemplates.raise {a w : Work} (h : a.SameTemplates w) (c : Condition) :
    a.SameTemplates (w.raise c) := h.trans ⟨rfl, rfl⟩

theorem offerBlock_templates (w : Work) (d : Descriptor) (p : Nat) (vs : List Int) :
    w.SameTemplates (offerBlock w d p vs) := by
  unfold offerBlock
  dsimp only
  split <;> exact ⟨by simp, by simp⟩

theorem endSegment_templates (w : Work) (i : SlotId) (reason : EndReason) :
    w.SameTemplates (endSegment w i reason) := by
  unfold endSegment
  split
  · dsimp only
    split
    · exact (((Work.SameTemplates.refl w).setSlot _ _).setRun _).raise _
    · exact (((offerBlock_templates w _ _ _).setSlot _ _).setRun _).raise _
  · exact .refl w

/-- The judgement of a departure leaves the templates. -/
theorem judge_templates (w : Work) (e : Entry) (y : Int) : w.SameTemplates (judge w e y) := by
  have hend : w.SameTemplates (endTest w e) := by
    unfold endTest
    split
    · exact .refl w
    · split
      · split
        · exact endSegment_templates _ _ _
        · split
          · split
            · exact (endSegment_templates w _ _).trans ⟨rfl, rfl⟩
            · exact ⟨by simp, by simp⟩
          · exact .refl w
      · exact .refl w
  have hstart (v : Work) : v.SameTemplates (startTest v e) := by
    unfold startTest startSegment
    split
    · split
      · exact ⟨by simp, by simp⟩
      · exact .refl v
    · exact .refl v
  have hsample (v : Work) (d : Descriptor) : v.SameTemplates (outputSample v d e y) := by
    have hcounted (r : Run) (f : Report → Report) : v.SameTemplates ((v.setRun r).count f) :=
      ((Work.SameTemplates.refl v).setRun r).count f
    unfold outputSample
    exact .ite (((hcounted _ _).setRun _).trans (offerBlock_templates _ _ _ _)) (hcounted _ _)
  have hout (v : Work) : v.SameTemplates (outputStep v e y) := by
    unfold outputStep
    split
    · exact hsample v _
    · exact .refl v
  exact (hend.trans (hstart _)).trans (hout _)

/-! ### The judgement and a FINISHED slot -/

theorem Lane.slot_count_of_notRunning {l : Lane} {i : SlotId} (h : (l.slot i).isRunning = false)
    (f : Report → Report) : (l.count f).slot i = l.slot i := by
  rw [slot_count, if_neg fun hi => ?_]
  rw [(runningSlot_eq_some.1 hi).1] at h
  cases h

/-- A block offered leaves a slot that is not RUNNING. -/
theorem offerBlock_slot {w : Work} {i : SlotId} (h : (w.lane.slot i).isRunning = false) (d : Descriptor)
    (p : Nat) (vs : List Int) : (offerBlock w d p vs).lane.slot i = w.lane.slot i := by
  unfold offerBlock
  dsimp only
  split
  · exact Lane.slot_count_of_notRunning h _
  · exact Lane.slot_count_of_notRunning h _

/-- A sample taken leaves a slot that is not RUNNING. -/
theorem outputStep_slot {w : Work} {i : SlotId} (h : (w.lane.slot i).isRunning = false) (e : Entry)
    (y : Int) : (outputStep w e y).lane.slot i = w.lane.slot i := by
  have hcounted (r : Run) (f : Report → Report) : ((w.setRun r).count f).lane.slot i = w.lane.slot i :=
    Lane.slot_count_of_notRunning (l := (w.setRun r).lane) h f
  have hite {x z : Work} {c : Prop} [Decidable c] (hx : x.lane.slot i = w.lane.slot i)
      (hz : z.lane.slot i = w.lane.slot i) : (if c then x else z).lane.slot i = w.lane.slot i := by
    split <;> assumption
  unfold outputStep outputSample
  split
  · refine hite ?_ (hcounted _ _)
    have hnext (r : Run) (f : Report → Report) (r' : Run) (d : Descriptor) (p : Nat) (vs : List Int) :
        (offerBlock (((w.setRun r).count f).setRun r') d p vs).lane.slot i = w.lane.slot i :=
      (offerBlock_slot (w := ((w.setRun r).count f).setRun r') (i := i)
        (by rw [show (((w.setRun r).count f).setRun r').lane.slot i = w.lane.slot i from hcounted r f]
            exact h) d p vs).trans (hcounted r f)
    exact hnext _ _ _ _ _ _
  · rfl

/-- The start test starts a LOADED slot, and leaves a FINISHED one. -/
theorem startTest_slot {w : Work} {i : SlotId} (h : ∀ d, w.lane.slot i ≠ .loaded d) (e : Entry) :
    (startTest w e).lane.slot i = w.lane.slot i := by
  unfold startTest startSegment
  split
  case h_1 k _ hk =>
    split
    case h_1 d hd =>
      have hne : i ≠ k := by
        rintro rfl
        exact h d hd
      exact Lane.slot_setSlot_other _ _ _ _ hne
    case h_2 => rfl
  case h_2 => rfl

/-- Only the block counts of an ending segment's report change. -/
theorem Work.LastBlock.report {w : Work} {d : Descriptor} {r r' : Report} {outbound : List Frame}
    {drops : Nat} (h : w.LastBlock d r r' outbound drops) :
    r' = { r with blocksSent := r'.blocksSent, blocksDropped := r'.blocksDropped } := by
  by_cases hb : w.lane.run.former.block = []
  · obtain ⟨rfl, -⟩ := h.absent hb
    rfl
  · rcases Nat.lt_or_ge 65536 (usedBytes w.outbound + ((streamBlock w.id d w.lane.run.former.first
      w.lane.run.former.block).payload.length + 7) + 4096) with hfull | hroom
    · obtain ⟨rfl, -⟩ := h.dropped hb hfull
      rfl
    · obtain ⟨rfl, -⟩ := h.sent hb hroom
      rfl

/-- A mark that completes the length of the RUNNING segment ends it, and the slot stays FINISHED (R149). -/
theorem judge_lengthEnd {w : Work} {i : SlotId} {d : Descriptor} {q : Report} {m : Nat} {e : Entry}
    (hi : w.lane.runningSlot = some i) (hs : w.lane.slot i = .running d q false m)
    (he : e.perfMark = true) (hd : 1 ≤ d.length) (hm : d.length ≤ m + 1) (y : Int) :
    StepEvent.segmentLengthEnd ∈ (judge w e y).trace ∧
      ∃ q', (judge w e y).lane.slot i = .finished d q' .length ∧
        q' = { q with blocksSent := q'.blocksSent, blocksDropped := q'.blocksDropped } := by
  have hend : endTest w e = (endSegment w i .length).note .segmentLengthEnd := by
    simp [endTest, hi, hs, he, hd, hm]
  obtain ⟨q', latch, hlane, -, -, hblock⟩ := endSegment_running hi hs .length
  have hslot : (endTest w e).lane.slot i = .finished d q' .length := by
    rw [hend, Work.note_lane, hlane]
    cases i <;> rfl
  have hstarted : (startTest (endTest w e) e).lane.slot i = .finished d q' .length := by
    rw [startTest_slot (by simp [hslot]), hslot]
  refine ⟨?_, q', ?_, hblock.report⟩
  · refine ((startTest_keeps (endTest w e) e).trans (outputStep_keeps _ e y)).1.trace _ ?_
    rw [hend]
    exact List.mem_cons_self ..
  · rw [judge, outputStep_slot (by rw [hstarted]; rfl), hstarted]

/-! ### The departure of an uncovered entry -/

/-- The reducer's update at a departure speaks of parameters, gain table and reducer alone. -/
theorem reduceHiss_congr {l l' : Lane} (hp : l'.params = l.params) (hg : l'.gainTable = l.gainTable)
    (hh : l'.run.hiss = l.run.hiss) (xd : Int) : reduceHiss l' xd = reduceHiss l xd := by
  unfold reduceHiss
  rw [hp, hg, hh]

/-- The departure that ends a floor run (R132). -/
theorem reduceHiss_ends {l : Lane} (hmode : l.params.get .floorMode = 0) (hc : l.run.hiss.runCount = 255)
    (xd : Int) {u : HissReducer} (hu : u = (reduceHiss l xd).1) :
    (reduceHiss l xd).2 = true ∧ u.runCount = 0 ∧ u.runMin = none ∧
      u.floor = riseFloor l.run.hiss.floor (l.run.hiss.runMin.elim u.level fun m => min m u.level)
        (l.params.get .floorRise).toNat := by
  subst hu
  simp only [min_comm _ (reduceHiss l xd).1.level]
  simp only [reduceHiss, hmode, HissReducer.updateFloor_track]
  rw [if_neg (by simp [HissReducer.split, hc])]
  exact ⟨rfl, rfl, rfl, rfl⟩

section Uncovered

variable {w : Work} {e : Entry} {es : List Entry} (hw : w.lane.run.ring.window = e :: es)
  (hl : e.link = none)
include hw hl

/-- An entry that no record covers departs without a retirement (R53). -/
theorem depart_uncovered : ∃ y, depart w =
    judge (hissDepart (humDepart (w.passed e es) { e with departed := true }) e.w)
      { e with departed := true } y := by
  have hnone : w.lane.run.recordOf e = none := by rw [Run.recordOf, hl]; rfl
  have hvalue : departingValue (w.passed e es).lane { e with departed := true } none = e.w := by
    simp [departingValue]
  have hstages := departStages_eq (w.passed e es) { e with departed := true } none rfl
  rw [hvalue] at hstages
  rw [depart_eq hw, hnone, hstages]
  exact ⟨_, rfl⟩

/-- The reducer after the departure, and the row of a floor run that ends. -/
theorem depart_uncovered_hiss : (depart w).lane.run.hiss = (reduceHiss w.lane e.w).1 ∧
    ((reduceHiss w.lane e.w).2 = true → StepEvent.floorUpdate ∈ (depart w).trace) := by
  obtain ⟨y, hy⟩ := depart_uncovered hw hl
  have hk := (humDepart_keeps (w.passed e es) { e with departed := true }).1
  obtain ⟨-, -, hparams, -, hgain, -⟩ := hk.config
  have hrun := humDepart_run (w.passed e es) { e with departed := true }
  have hreduce : reduceHiss (humDepart (w.passed e es) { e with departed := true }).lane e.w =
      reduceHiss w.lane e.w :=
    reduceHiss_congr hparams hgain (by rw [hrun, Work.passed, Work.setRun_lane]) e.w
  rw [hy]
  refine ⟨?_, fun h => (judge_keeps _ _ _).1.trace _ ?_⟩
  · rw [judge_onlyFormed _ _ _, hissDepart_eq, hreduce]
  · rw [hissDepart_eq, hreduce, if_pos h]
    exact List.mem_cons_self ..

/-- The templates after the departure: those of the boundary step, which learning leaves but for their
LEARNING banks (R71). -/
theorem depart_uncovered_templates {v : Work}
    (hv : v = countBoundaries (w.passed e es) { e with departed := true }) :
    (∀ ev ∈ v.trace, ev ∈ (depart w).trace) ∧
      (depart w).lane.sprocket.active = v.lane.sprocket.active ∧
      (depart w).lane.sprocket.cycles = v.lane.sprocket.cycles ∧
      (depart w).lane.line.active = v.lane.line.active ∧
      (depart w).lane.line.cycles = v.lane.line.cycles := by
  obtain ⟨y, hy⟩ := depart_uncovered hw hl
  have htaught : humDepart (w.passed e es) { e with departed := true } =
    teachTemplates v { e with departed := true } := by rw [hv]; rfl
  obtain ⟨hs, hline⟩ := judge_templates
    (hissDepart (humDepart (w.passed e es) { e with departed := true }) e.w) { e with departed := true } y
  rw [hissDepart_eq] at hs hline
  refine ⟨fun ev hev => ?_, ?_⟩
  · rw [hy]
    refine ((hissDepart_keeps _ _).trans (judge_keeps _ _ _)).1.trace ev ?_
    rw [htaught]
    exact hev
  · rw [hy, hissDepart_eq, hs, hline, htaught]
    unfold teachTemplates Template.teach
    dsimp only [Work.setLane]
    refine ⟨?_, ?_, ?_, ?_⟩ <;> split <;> rfl

/-- A mark that completes the RUNNING segment's length at the departure ends the segment (R149). -/
theorem depart_uncovered_lengthEnd {i : SlotId} {d : Descriptor} {q : Report} {m : Nat}
    (hi : w.lane.runningSlot = some i) (hs : w.lane.slot i = .running d q false m)
    (he : e.perfMark = true) (hd : 1 ≤ d.length) (hm : d.length ≤ m + 1) :
    StepEvent.segmentLengthEnd ∈ (depart w).trace ∧
      ∃ q', (depart w).lane.slot i = .finished d q' .length ∧
        q' = { q with blocksSent := q'.blocksSent, blocksDropped := q'.blocksDropped } := by
  obtain ⟨y, hy⟩ := depart_uncovered hw hl
  obtain ⟨v, hv⟩ : ∃ v, v = hissDepart (humDepart (w.passed e es) { e with departed := true }) e.w :=
    ⟨_, rfl⟩
  have hA : v.lane.slotA = w.lane.slotA := by
    rw [hv]
    simp [hissDepart, humDepart, teachTemplates, countBoundaries, Work.passed]
  have hB : v.lane.slotB = w.lane.slotB := by
    rw [hv]
    simp [hissDepart, humDepart, teachTemplates, countBoundaries, Work.passed]
  rw [hy, ← hv]
  refine judge_lengthEnd ?_ ?_ he hd hm y
  · rw [← hi, Lane.runningSlot, Lane.runningSlot, hA, hB]
  · rw [← hs]
    cases i
    · exact hA
    · exact hB

end Uncovered

/-! ### The boundaries of a departure -/

/-- The boundary that completes the cycle count swaps (R73). -/
theorem Template.boundary_swaps {t : Template} {c : Int} (h : c ≤ (t.cycles : Int) + 1) :
    t.boundary c = (t.swap, true) := if_pos (by push_cast; exact h)

section Boundaries

variable {w : Work} {e : Entry}

/-- A departure at line index 0 that completes LINE's cycle count swaps LINE (R72, R73). -/
theorem countBoundaries_line (hmode : w.p .lineMode = 0) (he : e.tl = 0)
    (hc : w.p .swapCycles ≤ (w.lane.line.cycles : Int) + 1) :
    (countBoundaries w e).lane.line = w.lane.line.swap ∧
      StepEvent.templateSwap ∈ (countBoundaries w e).trace := by
  have hb : w.lineBoundary e = true := by simp [Work.lineBoundary, he, hmode]
  simp [countBoundaries, hb, Template.boundary_swaps hc, Work.noteIf, Work.note]

/-- A marked LOCKED departure that completes SPROCKET's cycle count swaps SPROCKET (R72, R73). -/
theorem countBoundaries_sprocket (hmode : w.p .sprocketMode = 0) (hlocked : e.locked = true)
    (hmark : e.perfMark = true) (hc : w.p .swapCycles ≤ (w.lane.sprocket.cycles : Int) + 1) :
    (countBoundaries w e).lane.sprocket = w.lane.sprocket.swap ∧
      StepEvent.templateSwap ∈ (countBoundaries w e).trace := by
  have hb : w.sprocketBoundary e = true := by simp [Work.sprocketBoundary, hlocked, hmark, hmode]
  simp [countBoundaries, hb, Template.boundary_swaps hc, Work.noteIf, Work.note]

end Boundaries

theorem Template.swap_active (t : Template) :
    t.swap.active = t.acc.map fun a => max (-8388608) (min 8388607 ((a + 128) / 256)) := rfl

/-! ### A write-back that departs one entry -/

/-- A window one entry above LOOKAHEAD, its oldest entry free, departs that entry (R51). -/
theorem departureTest_one {w : Work} {e : Entry} {es : List Entry}
    (hw : w.lane.run.ring.window = e :: es) (hlen : (es.length : Int) = w.lane.params.get .lookahead)
    (hfree : w.lane.run.held = false) : departureTest w = depart w := by
  have hmay : w.mayDepart = true := by
    rw [Work.mayDepart_iff, Work.p, hw, List.length_cons]
    exact ⟨by omega, hfree⟩
  have hstop : (depart w).mayDepart = false := by
    rw [← Bool.not_eq_true, Work.mayDepart_iff, Work.p, depart_params, depart_window, hw, List.tail_cons]
    omega
  have hrest (n : Nat) : departUpTo n (depart w) = depart w := by
    cases n with
    | zero => rfl
    | succ n => rw [departUpTo, if_neg (by simp [hstop])]
  rw [departureTest, hw, List.length_cons, departUpTo, if_pos hmay, hrest]

/-- The work of a lane with a job's results written (R118). -/
def State.written (s : State) (l : LaneId) (r : DefectRecord) (results : List Int) : Work :=
  (s.work l).setRun (s.lanes[l].run.written r results)

section WriteBack

variable {s : State} {b : BankId} {order : List BankId} {j : Job} {rs : List Int} {l : LaneId}
  {r : DefectRecord} {e : Entry} {es : List Entry}

/-- The oldest entry, outside the span, is not written. -/
theorem written_window (hw : s.lanes[l].run.ring.window = e :: es)
    (hout : inSpan r.start r.stop e.pos = false) :
    (s.written l r rs).lane.run.ring.window = e :: es.map (Entry.repair r rs) := by
  have he : e.repair r rs = e := if_neg (by simp [hout])
  show s.lanes[l].run.ring.window.map (Entry.repair r rs) = _
  rw [hw, List.map_cons, he]

theorem held_of_uncovered {run : Run} (hw : run.ring.window = e :: es) (hl : e.link = none) :
    run.held = false := by
  rw [Run.held_eq_false_iff, hw]
  intro f hf q hq
  obtain rfl : e = f := by simpa using hf
  rw [Run.recordOf, hl] at hq
  cases hq

/-- A matching write-back whose results free the oldest entry, with the window one above LOOKAHEAD: the
part takes what one departure leaves (R117, R118). -/
theorem writeBack_departs (hreset : s.resetHeld = false) (horder : s.engine.finishOrder = b :: order)
    (hbank : s.engine.banks[b] = .finished j rs) (hj : j.lane = l)
    (hmatch : s.lanes[l].matching j b = some r) (hw : s.lanes[l].run.ring.window = e :: es)
    (hl : e.link = none) (hout : inSpan r.start r.stop e.pos = false)
    (hlen : (es.length : Int) = s.lanes[l].params.get .lookahead) :
    (causeStep s .writeBack).lanes[l] = (depart (s.written l r rs)).lane ∧
      causeEvents s .writeBack = (depart (s.written l r rs)).trace := by
  have hwindow := written_window (rs := rs) hw hout
  have hlane : writeBackLane b j rs (s.work l) = depart (s.written l r rs) := by
    have hr : (s.work l).lane.matching j b = some r := hmatch
    rw [writeBackLane, hr]
    exact departureTest_one hwindow (by rw [List.length_map]; exact hlen) (held_of_uncovered hwindow hl)
  have hfinished : s.engine.bankToWrite = some (b, j, rs) := by
    simp only [Engine.bankToWrite, horder, hbank]
  have hwork : writeBackWork s = some (b, depart (s.written l r rs)) := by
    simp only [writeBackWork, hfinished, hj, hlane]
  refine ⟨?_, by simp only [causeEvents, hwork, Option.elim_some]⟩
  have hstep : causeStep s .writeBack =
      (s.putWork (depart (s.written l r rs))).setEngine (s.engine.emptied b) := by
    simp only [causeStep, hreset, Bool.false_eq_true, if_false, writeBackStep, hwork]
  rw [hstep]
  exact State.lane_putWork s (depart_keeps _).1.id

end WriteBack

end Sys2Proof.Machine

namespace Sys2Proof.Settled

open Sys2Proof.Machine

/-- Settles O53: the write-back's step is one departure of an uncovered entry, and each row names what
comes about in it. -/
theorem departureEventsAtWriteBack : Obligations.DepartureEventsAtWriteBack := by
  intro s b order j rs l r e es hreset horder hbank hj hmatch hw hl hout hlen
  obtain ⟨hlane, hevents⟩ := writeBack_departs hreset horder hbank hj hmatch hw hl hout hlen
  have hwindow := written_window (rs := rs) hw hout
  have hrow (ev : StepEvent) (he : ev ∈ (depart (s.written l r rs)).trace) :
      namedEvent ev .writeBack s = causeStep s .writeBack := namedEvent_of_mem hreset (hevents ▸ he)
  have hcause := exec_causeRow .writeBack s
  refine ⟨fun hmode hcount => ?_, fun hmode htl hc => ?_, fun hmode hlocked hmark hc => ?_,
    fun i d q m hi hs hmark hd hm => ?_⟩
  · obtain ⟨hhiss, hnote⟩ := depart_uncovered_hiss hwindow hl
    obtain ⟨hended, hrun, hmin, hfloor⟩ := reduceHiss_ends (l := (s.written l r rs).lane) hmode hcount e.w
      (u := (depart (s.written l r rs)).lane.run.hiss) hhiss
    refine ⟨_, congrArg Host.Outcome.next (hrow .floorUpdate (hnote hended)), hcause, ?_⟩
    rw [hlane]
    refine ⟨hrun, hmin, fun m hm => ?_⟩
    subst hm
    exact hfloor
  · obtain ⟨hswap, hnote⟩ := countBoundaries_line
      (w := (s.written l r rs).passed e (es.map (Entry.repair r rs)))
      (e := { e with departed := true }) hmode htl hc
    obtain ⟨hkept, -, -, hactive, hcycles⟩ := depart_uncovered_templates hwindow hl rfl
    refine ⟨_, congrArg Host.Outcome.next (hrow .templateSwap (hkept _ hnote)), hcause, ?_⟩
    rw [hlane, hactive, hcycles, hswap]
    exact ⟨rfl, Template.swap_active _⟩
  · obtain ⟨hswap, hnote⟩ := countBoundaries_sprocket
      (w := (s.written l r rs).passed e (es.map (Entry.repair r rs)))
      (e := { e with departed := true }) hmode hlocked hmark hc
    obtain ⟨hkept, hactive, hcycles, -, -⟩ := depart_uncovered_templates hwindow hl rfl
    refine ⟨_, congrArg Host.Outcome.next (hrow .templateSwap (hkept _ hnote)), hcause, ?_⟩
    rw [hlane, hactive, hcycles, hswap]
    exact ⟨rfl, Template.swap_active _⟩
  · obtain ⟨hnote, q', hslot, hq'⟩ := depart_uncovered_lengthEnd hwindow hl hi hs hmark hd hm
    refine ⟨_, congrArg Host.Outcome.next (hrow .segmentLengthEnd hnote), hcause, q', ?_, hq'⟩
    rw [hlane, hslot]

end Sys2Proof.Settled

/-! # Hum templates

The indices of an entry, the working value, the boundaries and the teaching of a departure, and the learning
step. Settles O38 and O39. -/

namespace Sys2Proof.Machine

/-! ### Indices -/

/-- The sprocket index after one that lies in the template (R67). -/
theorem nextSprocket_eq {p prev : Nat} (h : prev < p) (mark holdover : Bool) :
    nextSprocket p prev mark holdover =
      if mark = true then 0 else if prev < p - 1 then prev + 1 else if holdover = true then 0 else p - 1 := by
  have hlast : prev + 1 < p ↔ prev < p - 1 := by omega
  simp only [nextSprocket, hlast]

theorem nextSprocket_lt {p : Nat} (h : 0 < p) (prev : Nat) (mark holdover : Bool) :
    nextSprocket p prev mark holdover < p := by
  unfold nextSprocket
  split
  · exact h
  · split
    · assumption
    · split <;> omega

/-- The line index counts modulo Q (R68). -/
theorem nextLine_eq {q prev : Nat} (h : prev < q) : nextLine q prev = (prev + 1) % q := by
  unfold nextLine
  split
  case isTrue hnext => rw [Nat.mod_eq_of_lt hnext]
  case isFalse hlast =>
    obtain rfl : prev + 1 = q := by omega
    rw [Nat.mod_self]

theorem HumIndex.next_first {h : HumIndex} (hi : h.indexed = false) (p q : Nat) (mark holdover : Bool) :
    h.next p q mark holdover = ⟨0, 0, true⟩ := by
  simp [next, hi]

theorem HumIndex.next_later {h : HumIndex} (hi : h.indexed = true) (p q : Nat) (mark holdover : Bool) :
    h.next p q mark holdover = ⟨nextSprocket p h.ts mark holdover, nextLine q h.tl, true⟩ :=
  if_pos hi

/-- The indices stay in their templates (R66 to R68). -/
theorem HumIndex.next_lt {h : HumIndex} {p q : Nat} (hs : h.ts < p) (hl : h.tl < q) (mark holdover : Bool) :
    (h.next p q mark holdover).ts < p ∧ (h.next p q mark holdover).tl < q := by
  cases hi : h.indexed with
  | false => rw [next_first hi]; exact ⟨Nat.zero_lt_of_lt hs, Nat.zero_lt_of_lt hl⟩
  | true =>
    rw [next_later hi, nextLine_eq hl]
    exact ⟨nextSprocket_lt (by omega) .., Nat.mod_lt _ (by omega)⟩

/-- The indices of an output, under the templates' lengths (R46, R81). -/
theorem indicesOf_eq {w : Work} {p q : Nat} (hp : w.p .samplesPerPerf = (p : Int))
    (hq : w.p .linePeriod = (q : Int)) (o : Output) :
    indicesOf w.lane o = w.lane.run.hum.next p q o.perfMark o.holdover := by
  unfold Work.p at hp hq
  rw [indicesOf, hp, hq, Int.toNat_natCast, Int.toNat_natCast]

/-- What the Hum Template Unit keeps of an output (R66, R18). -/
theorem indexOutput_lane (w : Work) (o : Output) :
    (indexOutput w o).lane =
      { w.lane with
        run := { w.lane.run with hum := indicesOf w.lane o }
        front := { w.lane.front with
          holdValue := if o.lost = true then w.lane.front.holdValue
            else workingValue w.lane o (indicesOf w.lane o) } } := by
  unfold indexOutput
  dsimp only
  split <;> rfl

/-! ### The boundaries and the teaching of a departure -/

theorem clamp24_in24 (v : Int) : In24 (clamp24 v) := by
  unfold clamp24 clampTo In24
  omega

theorem Work.sprocketBoundary_iff {w : Work} {e : Entry} :
    w.sprocketBoundary e = true ↔ e.locked = true ∧ e.perfMark = true ∧ w.p .sprocketMode = 0 := by
  simp [sprocketBoundary, and_assoc]

theorem Work.lineBoundary_iff {w : Work} {e : Entry} :
    w.lineBoundary e = true ↔ e.tl = 0 ∧ w.p .lineMode = 0 := by
  simp [lineBoundary]

theorem Entry.teaches_iff {e : Entry} :
    e.teaches = true ↔ e.sensor = false ∧ e.lost = false ∧ e.defect = false := by
  simp [teaches, and_assoc]

/-- A boundary swaps when it completes the cycle count, and is counted otherwise (R71, R73). -/
theorem Template.boundary_fst (t : Template) (c : Int) :
    (t.boundary c).1 = if c ≤ (t.cycles : Int) + 1 then t.swap else { t with cycles := t.cycles + 1 } := by
  unfold boundary
  push_cast
  split <;> rfl

/-- The first step of a departure touches the templates alone, each at its own boundary (R71 to R73). -/
theorem countBoundaries_lane (w : Work) (e : Entry) : (countBoundaries w e).lane =
    { w.lane with
      sprocket := if w.sprocketBoundary e = true then (w.lane.sprocket.boundary (w.p .swapCycles)).1
        else w.lane.sprocket
      line := if w.lineBoundary e = true then (w.lane.line.boundary (w.p .swapCycles)).1
        else w.lane.line } := by
  simp only [countBoundaries, Work.noteIf_lane, Work.setLane_lane, apply_ite Prod.fst]

/-- The second step of a departure touches the templates alone, each where it learns (R74, R75). -/
theorem teachTemplates_lane (w : Work) (e : Entry) : (teachTemplates w e).lane =
    { w.lane with
      sprocket := if w.p .sprocketMode = 0 ∧ e.locked = true ∧ e.teaches = true then
          w.lane.sprocket.teach e.ts (clamp24 (e.x - w.lane.line.active.getD e.tl 0))
            (w.p .sprocketLearnShift).toNat
        else w.lane.sprocket
      line := if w.p .lineMode = 0 ∧ e.teaches = true then
          w.lane.line.teach e.tl (clamp24 (e.x - w.lane.sprocket.active.getD e.ts 0))
            (w.p .lineLearnShift).toNat
        else w.lane.line } := by
  simp only [teachTemplates, Work.setLane_lane, Bool.and_eq_true, beq_iff_eq, and_assoc]

/-! ### The learning step -/

theorem learnStep_eq (acc u : Int) (k : Nat) : learnStep acc u k = acc + (256 * u - acc) / 2 ^ k := rfl

theorem learnStep_rises {acc u : Int} (h : acc ≤ 256 * u) (k : Nat) :
    acc ≤ learnStep acc u k ∧ learnStep acc u k ≤ 256 * u := by
  have hlow : 0 ≤ (256 * u - acc) / 2 ^ k := Int.ediv_nonneg (by omega) (by positivity)
  have hhigh : (256 * u - acc) / 2 ^ k ≤ 256 * u - acc := Int.ediv_le_self _ (by omega)
  rw [learnStep_eq]
  omega

/-- A falling step moves, since the floor of a negative distance is at most −1 (R75). -/
theorem learnStep_falls {acc u : Int} (h : 256 * u < acc) (k : Nat) :
    256 * u ≤ learnStep acc u k ∧ learnStep acc u k < acc := by
  have hpow : (1 : Int) ≤ 2 ^ k := one_le_pow₀ (by decide)
  have hlow : 256 * u - acc ≤ (256 * u - acc) / 2 ^ k :=
    Int.le_ediv_of_mul_le (by omega) (mul_le_of_one_le_right (by omega) hpow)
  have hhigh : (256 * u - acc) / 2 ^ k < 0 := Int.ediv_neg_of_neg_of_pos (by omega) (by omega)
  rw [learnStep_eq]
  omega

theorem learnStep_eq_self_iff (acc u : Int) (k : Nat) :
    learnStep acc u k = acc ↔ 0 ≤ 256 * u - acc ∧ 256 * u - acc < 2 ^ k := by
  have hpow : (0 : Int) < 2 ^ k := by positivity
  rw [learnStep_eq, add_eq_left, Int.ediv_eq_iff_of_pos hpow]
  simp

end Sys2Proof.Machine

namespace Sys2Proof.Settled

open Sys2Proof.Machine

/-- Settles O38: the two index rules are those of `HumIndex.next`, and an entry event forms its entry from
them. -/
theorem sprocketAndLineIndices : Obligations.SprocketAndLineIndices := by
  refine ⟨fun h p q mark holdover hs hl => ⟨fun hi => HumIndex.next_first hi p q mark holdover,
    fun hi => ?_, HumIndex.next_lt hs hl mark holdover⟩, fun w o h p q hp hq hh => ?_⟩
  · rw [HumIndex.next_later hi]
    exact ⟨nextSprocket_eq hs mark holdover, nextLine_eq hl⟩
  · have hindices : indicesOf w.lane o = h := (indicesOf_eq hp hq o).trans hh.symm
    refine ⟨by rw [indexOutput_lane, hindices], fun x e hx he => ?_⟩
    subst hx he
    refine ⟨rfl, rfl, ?_⟩
    rw [← hindices]
    rfl

/-- Settles O39: the working value by its definition, the two steps of a departure by their templates, and
the learning step by the side of the target on which it stands. -/
theorem subtractionAndLearning : Obligations.SubtractionAndLearning := by
  refine ⟨fun x hS tS hL tL => ⟨rfl, clamp24_in24 _⟩, fun w o h v hh hv => ?_, fun _ _ => rfl,
    fun w e => ?_, fun w e => ?_, fun acc u k => ⟨learnStep_eq acc u k, fun h => learnStep_rises h k,
      fun h => learnStep_falls h k, learnStep_eq_self_iff acc u k⟩⟩
  · have hvalue : workingValue w.lane o h = v := hv.symm
    refine ⟨hvalue, ?_, fun q => ⟨rfl, rfl⟩⟩
    rw [indexOutput_lane, ← hh, hvalue]
  · simp only [countBoundaries_lane, Template.boundary_fst, Work.sprocketBoundary_iff, Work.lineBoundary_iff]
    rfl
  · simp only [teachTemplates_lane, Entry.teaches_iff]
    rfl

end Sys2Proof.Settled

/-! # The configuration keeps its ranges

The lengths and ranges of templates, predictor and gain table through each block and each row. Settles
O40. -/

namespace Sys2Proof.Machine

/-! ### The templates -/

/-- 256 times a signed 24-bit value lies in an accumulator's range (R64, R65). -/
theorem In24.times256 {v : Int} (h : In24 v) : -2147483648 ≤ 256 * v ∧ 256 * v ≤ 2147483392 := by
  obtain ⟨hlow, hhigh⟩ := h
  omega

/-- A learning step toward a signed 24-bit target stays in the accumulator's range (R65, R75). -/
theorem learnStep_inRange {acc u : Int} (ha : -2147483648 ≤ acc ∧ acc ≤ 2147483392) (hu : In24 u)
    (k : Nat) : -2147483648 ≤ learnStep acc u k ∧ learnStep acc u k ≤ 2147483392 := by
  have htarget := hu.times256
  rcases le_or_gt acc (256 * u) with h | h
  · have := learnStep_rises h k
    omega
  · have := learnStep_falls h k
    omega

section TemplateOk

variable {n : Int} {t : Template} (h : t.Ok n)
include h

theorem Template.Ok.teach (i : Nat) {u : Int} (hu : In24 u) (k : Nat) : (t.teach i u k).Ok n := by
  obtain ⟨hactive, hacc, hcycles, hvalues, haccs⟩ := h
  refine ⟨hactive, by simpa [Template.teach] using hacc, hcycles, hvalues, fun a ha => ?_⟩
  rcases List.mem_or_eq_of_mem_set ha with hold | rfl
  · exact haccs a hold
  · refine learnStep_inRange ?_ hu k
    rw [List.getD_eq_getElem?_getD]
    cases hi : t.acc[i]? with
    | none => decide
    | some a => exact haccs a (List.mem_of_getElem? hi)

theorem Template.Ok.swap : t.swap.Ok n := by
  obtain ⟨hactive, hacc, -⟩ := h
  refine ⟨by simpa [Template.swap] using hacc, by simpa [Template.swap] using hacc, Nat.zero_le _,
    fun v hv => ?_, fun a ha => ?_⟩
  · obtain ⟨a, -, rfl⟩ := List.mem_map.1 hv
    exact clamp24_in24 _
  · obtain ⟨b, -, rfl⟩ := List.mem_map.1 ha
    exact (clamp24_in24 _).times256

/-- The cycle count stays below SWAP_CYCLES, at most 256 (R73). -/
theorem Template.Ok.boundary {c : Int} (hc : c ≤ 256) : (t.boundary c).1.Ok n := by
  rw [Template.boundary_fst]
  split
  case isTrue => exact h.swap
  case isFalse hcount =>
    obtain ⟨hactive, hacc, -, hvalues, haccs⟩ := h
    exact ⟨hactive, hacc, by simp only; omega, hvalues, haccs⟩

end TemplateOk

theorem Template.resize_ok {t : Template} {old new : Int} (h : t.Ok old) (hn : 0 ≤ new) :
    (t.resize old new).Ok new := by
  unfold resize
  split
  case isTrue he => exact he ▸ h
  case isFalse =>
    have hzero := Template.zero_ok new.toNat
    rwa [Int.toNat_of_nonneg hn] at hzero

/-! ### Written tables -/

@[simp] theorem overwrite_length (l : List Int) (first : Nat) (vs : List Int) :
    (overwrite l first vs).length = l.length := by
  induction vs generalizing l first with
  | nil => rfl
  | cons v vs ih => rw [overwrite, ih, List.length_set]

theorem mem_overwrite {l : List Int} {first : Nat} {vs : List Int} {a : Int}
    (h : a ∈ overwrite l first vs) : a ∈ l ∨ a ∈ vs := by
  induction vs generalizing l first with
  | nil => exact .inl h
  | cons v vs ih =>
    rcases ih h with hl | hvs
    · rcases List.mem_or_eq_of_mem_set hl with hold | rfl
      · exact .inl hold
      · exact .inr (List.mem_cons_self ..)
    · exact .inr (List.mem_cons_of_mem _ hvs)

/-- A range that a list and what is written over it both keep. -/
theorem overwrite_all {P : Int → Prop} {l vs : List Int} (hl : ∀ a ∈ l, P a) (hvs : ∀ v ∈ vs, P v)
    (first : Nat) : ∀ a ∈ overwrite l first vs, P a :=
  fun a ha => (mem_overwrite ha).elim (hl a) (hvs a)

theorem Template.Ok.writeActive {n : Int} {t : Template} (h : t.Ok n) (first : Nat) {vs : List Int}
    (hvs : ∀ v ∈ vs, In24 v) : (t.writeActive first vs).Ok n := by
  obtain ⟨hactive, hacc, hcycles, hvalues, haccs⟩ := h
  exact ⟨by simpa [Template.writeActive] using hactive, hacc, hcycles, overwrite_all hvalues hvs first,
    haccs⟩

theorem Template.Ok.writeLearning {n : Int} {t : Template} (h : t.Ok n) (first : Nat) {vs : List Int}
    (hvs : ∀ v ∈ vs, In24 v) : (t.writeLearning first vs).Ok n := by
  obtain ⟨hactive, hacc, -, hvalues, haccs⟩ := h
  refine ⟨hactive, by simpa [Template.writeLearning] using hacc, Nat.zero_le _, hvalues,
    overwrite_all haccs (fun a ha => ?_) first⟩
  obtain ⟨v, hv, rfl⟩ := List.mem_map.1 ha
  exact (hvs v hv).times256

/-! ### The configuration of a lane -/

/-- The parameters lie in their ranges, and the tables have their lengths and ranges (R64, R125, R135,
R164). -/
structure Lane.Configured (l : Lane) : Prop where
  params : l.ParamsOk
  tables : l.TablesOk

/-- From l to l' the parameters and the tables stay. -/
structure Lane.SameTables (l l' : Lane) : Prop where
  params : l'.params = l.params
  sprocket : l'.sprocket = l.sprocket
  line : l'.line = l.line
  predictor : l'.predictor = l.predictor
  gainTable : l'.gainTable = l.gainTable

theorem Lane.Configured.of_same {l l' : Lane} (h : l.Configured) (k : l.SameTables l') :
    l'.Configured := by
  obtain ⟨hparams, htables⟩ := h
  refine ⟨?_, ?_⟩
  · rwa [ParamsOk, k.params]
  · rwa [TablesOk, k.params, k.sprocket, k.line, k.predictor, k.gainTable]

/-- From w to w' a configuration in its ranges comes to one in its ranges. -/
def Work.KeepsRanges (w w' : Work) : Prop := w.lane.Configured → w'.lane.Configured

namespace Work.KeepsRanges

theorem refl (w : Work) : w.KeepsRanges w := fun h => h

theorem trans {a b c : Work} (h : a.KeepsRanges b) (k : b.KeepsRanges c) : a.KeepsRanges c :=
  fun ok => k (h ok)

theorem of_same {w w' : Work} (h : w.lane.SameTables w'.lane) : w.KeepsRanges w' := fun ok => ok.of_same h

/-- A block that keeps the configuration and the templates keeps the ranges. -/
theorem of_templates {w w' : Work} (hk : w.Keeps w') (ht : w.SameTemplates w') : w.KeepsRanges w' := by
  obtain ⟨-, -, hparams, hpredictor, hgain, -⟩ := hk.config
  exact of_same ⟨hparams, ht.sprocket, ht.line, hpredictor, hgain⟩

theorem setRun (w : Work) (r : Run) : w.KeepsRanges (w.setRun r) := of_same ⟨rfl, rfl, rfl, rfl, rfl⟩

theorem setFront (w : Work) (f : FrontEnd) : w.KeepsRanges (w.setFront f) :=
  of_same ⟨rfl, rfl, rfl, rfl, rfl⟩

theorem count (w : Work) (f : Report → Report) : w.KeepsRanges (w.count f) :=
  of_same ⟨by simp, by simp, by simp, by simp, by simp⟩

theorem raise (w : Work) (c : Condition) : w.KeepsRanges (w.raise c) := of_same ⟨rfl, rfl, rfl, rfl, rfl⟩

end Work.KeepsRanges

/-! ### A departure -/

theorem Lane.ParamsOk.swapCycles_le {l : Lane} (h : l.ParamsOk) : l.params.get .swapCycles ≤ 256 :=
  (h .swapCycles (by decide)).2

/-- Boundaries, swaps and teaching keep the templates in their ranges (R64, R65). -/
theorem humDepart_ranges (w : Work) (e : Entry) : w.KeepsRanges (humDepart w e) := by
  have hcount : w.KeepsRanges (countBoundaries w e) := fun ⟨hparams, hsprocket, hline, hrest⟩ => by
    rw [countBoundaries_lane]
    refine ⟨hparams, ?_, ?_, hrest⟩
    · dsimp only
      split
      · exact hsprocket.boundary hparams.swapCycles_le
      · exact hsprocket
    · dsimp only
      split
      · exact hline.boundary hparams.swapCycles_le
      · exact hline
  have hteach (v : Work) : v.KeepsRanges (teachTemplates v e) :=
      fun ⟨hparams, hsprocket, hline, hrest⟩ => by
    rw [teachTemplates_lane]
    refine ⟨hparams, ?_, ?_, hrest⟩
    · dsimp only
      split
      · exact hsprocket.teach _ (clamp24_in24 _) _
      · exact hsprocket
    · dsimp only
      split
      · exact hline.teach _ (clamp24_in24 _) _
      · exact hline
  exact hcount.trans (hteach _)

theorem retireAt_templates (w : Work) (e : Entry) (r : Option DefectRecord) :
    w.SameTemplates (retireAt w e r) := by
  have hoffer (v : Work) (g : BitVec 16) (q : DefectRecord) : v.SameTemplates (offerReport v g q) := by
    unfold offerReport
    exact .ite ⟨rfl, rfl⟩ (((Work.SameTemplates.refl v).count _).raise _)
  have hretire (d : Option Descriptor) (q : DefectRecord) : w.SameTemplates (retire w d q) := by
    have hcounted := (Work.SameTemplates.refl w).count (Report.retired q)
    unfold retire
    cases d with
    | none => exact hcounted.setRun _
    | some d => exact (Work.SameTemplates.ite (hcounted.trans (hoffer _ _ _)) hcounted).setRun _
  cases r with
  | none => exact .refl w
  | some q => exact .ite (hretire _ q) (.refl w)

theorem retireAt_keeps (w : Work) (e : Entry) (r : Option DefectRecord) : w.KeepsBoth (retireAt w e r) := by
  cases r with
  | none => exact .refl w
  | some q => exact both_ite (retire_keeps w _ q) (.refl w)

/-- Of a departure's stages the Hum Template Unit's alone touches the configuration (R53). -/
theorem depart_ranges (w : Work) : w.KeepsRanges (depart w) := by
  cases hw : w.lane.run.ring.window with
  | nil => rw [depart_of_empty hw]; exact .refl w
  | cons e es =>
    have hpassed : w.KeepsRanges (w.passed e es) := .setRun w _
    have hhiss (v : Work) (xd : Int) : v.KeepsRanges (hissDepart v xd) :=
      .of_templates (hissDepart_keeps v xd).1 ⟨by simp [hissDepart], by simp [hissDepart]⟩
    have hjudge (v : Work) (e : Entry) (y : Int) : v.KeepsRanges (judge v e y) :=
      .of_templates (judge_keeps v e y).1 (judge_templates v e y)
    have hretire (v : Work) (e : Entry) (r : Option DefectRecord) : v.KeepsRanges (retireAt v e r) :=
      .of_templates (retireAt_keeps v e r).1 (retireAt_templates v e r)
    rw [depart_eq hw, departStages_eq _ _ _ rfl]
    exact (((hpassed.trans (humDepart_ranges _ _)).trans (hhiss _ _)).trans (hjudge _ _ _)).trans
      (hretire _ _ _)

theorem departureTest_ranges (w : Work) : w.KeepsRanges (departureTest w) := fun ok =>
  departureTest_induction (P := fun v => v.lane.Configured) ok fun v hv _ => depart_ranges v hv

/-! ### The examination -/

theorem openRecord_templates (w : Work) (a b : Pos) (c : Causes) (p : Nat) (t : Nat × Nat) :
    w.SameTemplates (openRecord w a b c p t) := by
  rcases Nat.lt_or_ge w.lane.run.queue.records.length 32 with h | h
  · rw [openRecord_eq a b c p t h]
    exact ⟨rfl, rfl⟩
  · rw [openRecord_full a b c p t h]
    exact ⟨by simp, by simp⟩

theorem openAt_templates (w : Work) (n : Entry) (b : Bool) (m : Measures) (d : Demand) :
    w.SameTemplates (openAt w n b m d) :=
  .ite (.refl w) (openRecord_templates w _ _ _ _ _)

theorem openRemainder_templates (w : Work) (n : Entry) (p : Pos) (d : Demand) :
    w.SameTemplates (openRemainder w n p d) :=
  .ite (openRecord_templates w _ _ _ _ _) (.refl w)

theorem recordActions_templates (w : Work) (n : Entry) (m : Measures) (d : Demand) :
    w.SameTemplates (recordActions w n m d) := by
  have hset (r : Run) : w.SameTemplates (w.setRun r) := ⟨rfl, rfl⟩
  unfold recordActions
  split
  · refine .ite ?_ (hset _)
    unfold extendRecord
    exact .ite (.ite ((hset _).trans (openAt_templates _ _ _ _ _))
      ((hset _).trans (openRemainder_templates _ _ _ _))) (hset _)
  · exact openAt_templates w _ _ _ _

theorem closingTest_templates (w : Work) (n : Pos) : w.SameTemplates (closingTest w n) := by
  unfold closingTest
  split
  · exact .ite ⟨rfl, rfl⟩ (.refl w)
  · exact .refl w

theorem examine_ranges (w : Work) (n : Entry) : w.KeepsRanges (examine w n) := by
  refine .of_templates (examine_keeps w n).1 (.ite (.refl w) ?_)
  obtain ⟨m, c, v, det, rfl, he, -⟩ := examineEntry_eq w n
  have hsettled : w.SameTemplates w.settled := ⟨rfl, rfl⟩
  rw [he]
  exact ((hsettled.trans (recordActions_templates _ n m _)).trans (closingTest_templates _ _)).setRun _

/-! ### An entry event and an instant -/

theorem makeRoom_ranges (n : Nat) (w : Work) : w.KeepsRanges (makeRoom n w) := fun ok =>
  makeRoom_induction (P := fun v => v.lane.Configured) n ok fun v hv _ => by
    have hfreed : v.KeepsRanges v.freed := by
      unfold Work.freed
      split
      · exact (Work.KeepsRanges.setRun v _).trans (.raise _ _)
      · exact .refl v
    rw [makeRoomOnce_eq]
    exact hfreed.trans (depart_ranges _) hv

theorem entryEvent_ranges (w : Work) (o : Output) : w.KeepsRanges (entryEvent w o) := by
  have hindex : w.KeepsRanges (indexOutput w o) :=
    .of_same (by rw [indexOutput_lane]; exact ⟨rfl, rfl, rfl, rfl, rfl⟩)
  have hplace (v : Work) (e : Entry) : v.KeepsRanges (placeEntry v e) :=
    (Work.KeepsRanges.setRun v _).trans (.count _ _)
  exact (((hindex.trans (makeRoom_ranges _ _)).trans (hplace _ _)).trans (examine_ranges _ _)).trans
    (departureTest_ranges _)

theorem produceUpTo_ranges (p q : PrevInstant) (n : Nat) (w : Work) :
    w.KeepsRanges (produceUpTo p q n w) := by
  induction n generalizing w with
  | zero => exact .refl w
  | succ n ih =>
    unfold produceUpTo
    split
    · exact ((Work.KeepsRanges.setRun w _).trans (entryEvent_ranges _ _)).trans (ih _)
    · exact .refl w

theorem resampleInstant_ranges (next : PrevInstant) (splice : Bool) (w : Work) :
    w.KeepsRanges (resampleInstant next splice w) := by
  have hsplice : w.KeepsRanges (w.withSplice next.index splice) := .setRun w _
  have hprev (v : Work) : v.KeepsRanges (v.withPrev next) := .setRun v _
  cases hp : w.lane.run.resampler.prev with
  | none => rw [resampleInstant_first hp]; exact hsplice.trans (hprev _)
  | some p =>
    rw [resampleInstant_later hp]
    exact (hsplice.trans (produceUpTo_ranges p next 21 _)).trans (hprev _)

theorem watchSignal_ranges (q : Quality) (w : Work) : w.KeepsRanges (watchSignal q w) := by
  have hraised (v : Work) (ev : StepEvent) : v.KeepsRanges ((v.raise .signalState).note ev) := .raise v _
  have hlost (v : Work) : v.KeepsRanges (onSignalLost v) := by
    cases hr : v.lane.run.queue.openRecord with
    | none => rw [onSignalLost_none hr]; exact hraised v _
    | some r =>
      rw [onSignalLost_some hr]
      exact ((hraised v _).trans (.setRun _ _)).trans (departureTest_ranges _)
  have hrecovered (v : Work) : v.KeepsRanges (onSignalRecovered v) := (hraised v _).trans (.setRun _ _)
  have hfront := Work.KeepsRanges.setFront w (w.lane.front.watch q)
  unfold watchSignal
  dsimp only
  split
  · exact hfront.trans (hlost _)
  · exact hfront.trans (hrecovered _)
  · exact hfront

/-- The tracker leaves the templates (R26). -/
theorem trackInstant_templates (k : Pos) (n : Nat) (w : Work) : w.SameTemplates (trackInstant k n w) := by
  have hput (v : Work) (t : Tracker) : v.SameTemplates (v.putTracker t) :=
    .ite ⟨rfl, rfl⟩ ⟨rfl, rfl⟩
  have hnote (v : Work) (b : Bool) (ev : StepEvent) : v.SameTemplates (v.noteIf b ev) :=
    ⟨by simp, by simp⟩
  have hcounted (v : Work) (f : Report → Report) (t : Tracker) :
      v.SameTemplates ((v.count f).putTracker t) :=
    ((Work.SameTemplates.refl v).count f).trans (hput _ t)
  have hedge (v : Work) : v.SameTemplates (trackEdge k v) :=
    (((hcounted v _ _).setRun _).trans (hnote _ _ _)).trans (hnote _ _ _)
  have hedges (n : Nat) : ∀ v : Work, v.SameTemplates (trackEdges k n v) := by
    induction n with
    | zero => exact .refl
    | succ n ih => exact fun v => (hedge v).trans (ih _)
  exact (hedges n w).trans ((hcounted _ _ _).trans (hnote _ _ _))

theorem trackInstant_ranges (k : Pos) (n : Nat) (w : Work) : w.KeepsRanges (trackInstant k n w) :=
  .of_templates (trackInstant_keeps k n w) (trackInstant_templates k n w)

theorem restep_ranges (w : Work) (e : Int) : w.KeepsRanges (w.restep e) := by
  unfold Work.restep
  dsimp only
  split
  · exact .refl w
  · exact .setRun w _

theorem completeInstant_ranges (x : Int) (h : Option Halves) (q : Quality) (es : List EdgeKind) (w : Work) :
    w.KeepsRanges (completeInstant x h q es w) :=
  ((((Work.KeepsRanges.setFront w _).trans (watchSignal_ranges q _)).trans (trackInstant_ranges _ _ _)).trans
    (restep_ranges _ _)).trans (resampleInstant_ranges _ _ _)

theorem completeSensor_ranges (x : Int) (h : Option Halves) (q : Quality) (w : Work) :
    w.KeepsRanges (completeSensor x h q w) :=
  (Work.KeepsRanges.setFront w _).trans (completeInstant_ranges _ _ _ _ _)

theorem takeWord_ranges (f : SensorFields) (w : Work) : w.KeepsRanges (takeWord f w) := by
  unfold takeWord
  split
  · split
    · unfold takeDual
      split
      · exact .setFront w _
      · exact (Work.KeepsRanges.setFront w _).trans (.count _ _)
      · exact (Work.KeepsRanges.setFront w _).trans (completeSensor_ranges _ _ _ _)
      · exact .count w _
    · exact completeSensor_ranges _ _ _ w
  · exact .refl w

theorem generateInstant_ranges (w : Work) : w.KeepsRanges (generateInstant w) := by
  unfold generateInstant
  split
  · exact (Work.KeepsRanges.setRun w _).trans (completeInstant_ranges _ _ _ _ _)
  · exact .refl w

theorem writeBackLane_ranges (b : BankId) (j : Job) (rs : List Int) (w : Work) :
    w.KeepsRanges (writeBackLane b j rs w) := by
  unfold writeBackLane
  split
  · exact (Work.KeepsRanges.setRun w _).trans (departureTest_ranges _)
  · exact .refl w

/-! ### The commands that write the configuration -/

/-- A stored write puts a value in its parameter's range and leaves the others (R164). -/
theorem Lane.ParamsOk.put {l : Lane} (h : l.ParamsOk) (p : Param) (v : Int) :
    ({ l with params := l.params.put p (p.applied v) } : Lane).ParamsOk := fun q hq => by
  by_cases hqp : q = p
  · subst hqp
    rw [Params.get_put_same]
    exact q.applied_inRange v
  · rw [Params.get_put_other _ _ _ _ hqp]
    exact h q hq

/-- A parameter write stores a value in its range, and the table whose length or content it sets follows it
(R80, R135, R164). -/
theorem Lane.writeParam_configured {l : Lane} (h : l.Configured) (p : Param) (v : Int) :
    (l.writeParam p v).Configured := by
  obtain ⟨hparams, hsprocket, hline, hrest⟩ := h
  have hput := hparams.put p v
  have low (q : Param) (hq : q ∈ Param.all) : q.row.low ≤ (l.params.put p (p.applied v)).get q :=
    (hput q hq).1
  have hP (hp : .samplesPerPerf ≠ p) :
      l.sprocket.Ok ((l.params.put p (p.applied v)).get .samplesPerPerf) := by
    rwa [Params.get_put_other _ _ _ _ hp]
  have hQ (hp : .linePeriod ≠ p) : l.line.Ok ((l.params.put p (p.applied v)).get .linePeriod) := by
    rwa [Params.get_put_other _ _ _ _ hp]
  cases p with
  | samplesPerPerf =>
    have hpos := (by decide : 0 ≤ Param.samplesPerPerf.row.low).trans (low .samplesPerPerf (by decide))
    exact ⟨hput, Template.resize_ok hsprocket hpos, hQ (by decide), hrest⟩
  | linePeriod =>
    have hpos := (by decide : 0 ≤ Param.linePeriod.row.low).trans (low .linePeriod (by decide))
    exact ⟨hput, hP (by decide), Template.resize_ok hline hpos, hrest⟩
  | hissOpen | hissDepth =>
    obtain ⟨hpredictor, hpredicts, -⟩ := hrest
    exact ⟨hput, hP (by decide), hQ (by decide), hpredictor, hpredicts, gainCurve_length _ _,
      fun g hg => gainCurve_inRange (low .hissOpen (by decide)) hg⟩
  | floorValue =>
    unfold writeParam consequences
    dsimp only
    split <;> exact ⟨hput, hP (by decide), hQ (by decide), hrest⟩
  | _ => exact ⟨hput, hP (by decide), hQ (by decide), hrest⟩

/-- DEFAULT_LANE sets the reset state's configuration (R7). -/
theorem Lane.toDefaults_configured (l : Lane) : l.toDefaults.Configured :=
  ⟨Lane.reset_paramsOk, Lane.reset_tablesOk⟩

/-- A written table keeps its length, and takes clamped values (R78, R79, R125, R135). -/
theorem Lane.writeTable_configured {l : Lane} (h : l.Configured) (t : Table) (first : Nat) (vs : List Int) :
    (l.writeTable t first (vs.map t.clamp)).Configured := by
  obtain ⟨hparams, hsprocket, hline, hrest⟩ := h
  have h24 : ∀ v ∈ vs.map clamp24, In24 v := fun v hv => by
    obtain ⟨u, -, rfl⟩ := List.mem_map.1 hv
    exact clamp24_in24 u
  cases t with
  | sprocketActive => exact ⟨hparams, hsprocket.writeActive first h24, hline, hrest⟩
  | sprocketLearning =>
    exact ⟨hparams, hsprocket.writeLearning first h24, hline, hrest⟩
  | lineActive => exact ⟨hparams, hsprocket, hline.writeActive first h24, hrest⟩
  | lineLearning =>
    exact ⟨hparams, hsprocket, hline.writeLearning first h24, hrest⟩
  | predictor =>
    obtain ⟨hpredictor, hpredicts, hgain⟩ := hrest
    refine ⟨hparams, hsprocket, hline, (overwrite_length ..).trans hpredictor,
      overwrite_all hpredicts (fun v hv => ?_) first, hgain⟩
    obtain ⟨u, -, rfl⟩ := List.mem_map.1 hv
    simp only [Table.clamp, clamp16, clampTo]
    omega
  | gain =>
    obtain ⟨hpredictor, hpredicts, hgain, hgains⟩ := hrest
    refine ⟨hparams, hsprocket, hline, hpredictor, hpredicts, (overwrite_length ..).trans hgain,
      overwrite_all hgains (fun v hv => ?_) first⟩
    obtain ⟨u, -, rfl⟩ := List.mem_map.1 hv
    simp only [Table.clamp, clampTo]
    omega
  | defectQueue => exact ⟨hparams, hsprocket, hline, hrest⟩

/-! ### The configuration through every row -/

theorem stopEffects_ranges (w : Work) : w.KeepsRanges (stopEffects w) := by
  obtain ⟨a, b, latch, hl, -⟩ := stopEffects_lane w
  exact .of_same (by rw [hl]; exact ⟨rfl, rfl, rfl, rfl, rfl⟩)

/-- No row takes the configuration out of its lengths and ranges. -/
theorem Work.ByRow.configured {w v : Work} (h : w.ByRow v) (ok : w.lane.Configured) : v.lane.Configured := by
  cases h with
  | unchanged => exact ok
  | stop _ => exact stopEffects_ranges w ok
  | reset =>
    by_cases hr : w.lane.state = .running
    · rw [resetLaneEffects_running hr]
      exact (stopEffects_ranges w ok).of_same ⟨rfl, rfl, rfl, rfl, rfl⟩
    · rw [resetLaneEffects_notRunning hr]
      exact ok.of_same ⟨rfl, rfl, rfl, rfl, rfl⟩
  | toDefaults _ => exact w.lane.toDefaults_configured
  | setParam p v _ => exact Lane.writeParam_configured ok p v
  | writeTable t first vs _ _ => exact Lane.writeTable_configured ok t first vs
  | enable _ | disable _ | start _ | setMask _ | load _ _ _ _ | startRepair _ _ _ _ _ =>
    exact ok.of_same ⟨rfl, rfl, rfl, rfl, rfl⟩
  | loadSegment i _ _ _ | unload i _ _ | requestEnd i _ _ _ _ _ | collect i _ _ _ _ =>
    cases i <;> exact ok.of_same ⟨rfl, rfl, rfl, rfl, rfl⟩
  | word f => exact takeWord_ranges f w ok
  | edge k =>
    cases ht : w.takesSensor with
    | false => rwa [takeEdge_ignored ht]
    | true => rw [takeEdge_held ht]; exact ok.of_same ⟨rfl, rfl, rfl, rfl, rfl⟩
  | generate => exact generateInstant_ranges w ok
  | notice id =>
    unfold formLaneNotice
    split
    · exact ok.of_same ⟨rfl, rfl, rfl, rfl, rfl⟩
    · exact ok
  | writeBack b j rs => exact writeBackLane_ranges b j rs w ok

end Sys2Proof.Machine

namespace Sys2Proof.Settled

open Sys2Proof.Machine

/-- Settles O40: every row keeps a lane's configuration in its ranges, parameters and tables together, since
the templates' lengths follow two parameters and the swap's bound a third. -/
theorem configurationStaysInRange : Obligations.ConfigurationStaysInRange := by
  intro s t hparams htables hstep
  have ok : t.EachLane Lane.Configured :=
    step_keeps_eachLane ⟨Lane.reset_paramsOk, Lane.reset_tablesOk⟩ (fun _ _ hrow => hrow.configured)
      (fun i => ⟨hparams i, htables i⟩) hstep
  exact ⟨fun i => (ok i).params, fun i => (ok i).tables⟩

end Sys2Proof.Settled

/-! # The Defect Queue's bounds

How many records a queue holds and how long they are, through each block and each row. Settles O46. -/

namespace Sys2Proof.Machine

/-! ### Lengths of spans -/

theorem posAdd_posDiff (n p : Pos) : posAdd p (posDiff n p) = n := by
  rw [posAdd, posDiff, BitVec.ofInt_toInt]
  ring

theorem posAdd_posAdd (p : Pos) (i j : Int) : posAdd (posAdd p i) j = posAdd p (i + j) := by
  rw [posAdd, posAdd, posAdd, BitVec.ofInt_add, BitVec.add_assoc]

/-- The length of a span whose ends are told from one position. -/
theorem spanLength_posAdd {p : Pos} {i j : Int} (h : i ≤ j) (hj : j - i < 4294967296) :
    (spanLength (posAdd p i) (posAdd p j) : Int) = j - i + 1 := by
  have hsub : posAdd p j - posAdd p i = BitVec.ofInt 32 (j - i) := by
    unfold posAdd
    rw [sub_eq_add_neg j i, BitVec.ofInt_add, BitVec.ofInt_neg]
    ring
  rw [spanLength, hsub, BitVec.toNat_ofInt, Int.emod_eq_of_lt (by omega) (by norm_num; omega)]
  omega

/-- The same for a span that starts at the position itself. -/
theorem spanLength_from {p : Pos} {j : Int} (h : 0 ≤ j) (hj : j < 4294967296) :
    (spanLength p (posAdd p j) : Int) = j + 1 := by
  have := spanLength_posAdd (p := p) (i := 0) (j := j) h (by omega)
  rwa [show posAdd p 0 = p by simp [posAdd], sub_zero] at this

theorem posDiff_lt (p q : Pos) : posDiff p q < 2147483648 := by
  have := BitVec.two_mul_toInt_lt (x := p - q)
  unfold posDiff
  omega

/-- The end of a span of at most 1,024 positions lies that far from its start. -/
theorem posDiff_of_spanLength {start stop : Pos} (h : spanLength start stop ≤ 1024) :
    posDiff stop start = ((stop - start).toNat : Int) := by
  unfold spanLength at h
  exact BitVec.toInt_eq_toNat_of_lt (by omega)

/-! ### A queue within its bounds -/

/-- At most 32 records, each of at most 1,024 positions (R89, R97). -/
structure DefectQueue.Bounded (q : DefectQueue) : Prop where
  few : q.records.length ≤ 32
  short : ∀ r ∈ q.records, spanLength r.start r.stop ≤ 1024

/-- A span holds one position at least, so a lane's queue is as it should be when it is `Bounded`. -/
theorem Lane.queueOk_iff {l : Lane} : l.QueueOk ↔ l.run.queue.Bounded :=
  ⟨fun ⟨hfew, h⟩ => ⟨hfew, fun r hr => (h r hr).2⟩,
    fun h => ⟨h.few, fun r hr => ⟨Nat.succ_le_succ (Nat.zero_le _), h.short r hr⟩⟩⟩

theorem DefectQueue.Bounded.of_records {q q' : DefectQueue} (h : q.Bounded) (he : q'.records = q.records) :
    q'.Bounded := ⟨by rw [he]; exact h.few, by rw [he]; exact h.short⟩

theorem DefectQueue.bounded_of_empty {q : DefectQueue} (h : q.records = []) : q.Bounded :=
  ⟨by simp [h], by simp [h]⟩

/-- A record rewritten on a span of lawful length. -/
theorem DefectQueue.Bounded.update {q : DefectQueue} (h : q.Bounded) {r : DefectRecord}
    (hr : spanLength r.start r.stop ≤ 1024) : (q.update r).Bounded := by
  refine ⟨by simpa [DefectQueue.update] using h.few, fun a ha => ?_⟩
  rcases mem_update ha with rfl | ⟨ha, -⟩
  · exact hr
  · exact h.short a ha

theorem DefectQueue.Bounded.afterDeparture {q : DefectQueue} (h : q.Bounded) (e : Entry)
    (r : Option DefectRecord) : (q.afterDeparture e r).Bounded := by
  unfold DefectQueue.afterDeparture
  cases r with
  | none => exact h
  | some r =>
    dsimp only
    split
    · exact ⟨(List.length_filter_le _ _).trans h.few, fun a ha => h.short a (List.mem_of_mem_filter ha)⟩
    · exact h

/-! ### Departures and making room -/

section Departs

variable {w : Work} (h : w.lane.run.queue.Bounded)
include h

theorem depart_bounded : (depart w).lane.run.queue.Bounded := by
  cases hw : w.lane.run.ring.window with
  | nil => rwa [depart_of_empty hw]
  | cons e es => rw [depart_queue hw]; exact h.afterDeparture e _

theorem departureTest_bounded : (departureTest w).lane.run.queue.Bounded :=
  departureTest_induction (P := fun v => v.lane.run.queue.Bounded) h fun _ hv _ => depart_bounded hv

theorem freed_bounded : w.freed.lane.run.queue.Bounded := by
  cases hh : w.lane.run.holder with
  | none => rwa [show w.freed = w by simp only [Work.freed, hh]]
  | some r =>
    have hfreed : w.freed.lane.run = w.lane.run.abandon r := by simp [Work.freed, hh]
    obtain ⟨e, -, hrec, -⟩ := Run.holder_eq_some hh
    rw [hfreed, abandon_queue]
    exact h.update (h.short r (recordOf_mem hrec))

theorem makeRoom_bounded (n : Nat) : (makeRoom n w).lane.run.queue.Bounded :=
  makeRoom_induction (P := fun v => v.lane.run.queue.Bounded) n h fun v hv _ => by
    rw [makeRoomOnce_eq]
    exact depart_bounded (freed_bounded hv)

end Departs

/-! ### The examination -/

/-- An opening on a span of lawful length: a drop, or one record more at a queue that has room (R99). -/
theorem openRecord_bounded {w : Work} (h : w.lane.run.queue.Bounded) {start stop : Pos}
    (hspan : spanLength start stop ≤ 1024) (c : Causes) (p : Nat) (t : Nat × Nat) :
    (openRecord w start stop c p t).lane.run.queue.Bounded := by
  rcases Nat.lt_or_ge w.lane.run.queue.records.length 32 with hroom | hfull
  · rw [openRecord_eq _ _ _ _ _ hroom]
    refine ⟨by simpa using hroom, fun a ha => ?_⟩
    rcases List.mem_append.1 ha with ha | ha
    · exact h.short a ha
    · rw [List.mem_singleton.1 ha]; exact hspan
  · rw [openRecord_full _ _ _ _ _ hfull]
    exact h.of_records rfl

/-- An opening starts at most two positions before its entry and ends at most 47 beyond it (R90, R95). -/
theorem openAt_bounded {w : Work} (h : w.lane.run.queue.Bounded) (n : Entry) (b : Bool) (m : Measures)
    {d : Demand} (hd : d.splice ≤ 48) : (openAt w n b m d).lane.run.queue.Bounded := by
  unfold openAt
  dsimp only
  split
  · exact h
  · obtain ⟨hlow, hhigh⟩ := Demand.reach_le hd
    refine openRecord_bounded h ?_ _ _ _
    generalize w.lane.run.ring.tail.length + w.lane.run.ring.window.length - 1 = older
    have hback := limitBack_le w.lane.run.detector.lastEnd n.pos (if d.fires then min 2 older else 0)
    have htwo : (if d.fires = true then min 2 older else 0) ≤ 2 := by split <;> omega
    have := spanLength_posAdd (p := n.pos)
      (i := -(limitBack w.lane.run.detector.lastEnd n.pos (if d.fires then min 2 older else 0) : Nat))
      (j := d.reach) (by omega) (by omega)
    unfold openingStart
    omega

/-- The grown record ends at most 1,023 positions beyond its start (R94). -/
theorem extended_short {r : DefectRecord} (hr : spanLength r.start r.stop ≤ 1024) (l : Lane) (n : Pos)
    (d : Demand) :
    spanLength (extended l r n d).start (extended l r n d).stop ≤ 1024 := by
  have hlength := posDiff_of_spanLength hr
  have := spanLength_from (p := r.start)
    (j := min (max (posDiff r.stop r.start) (posDiff n r.start + d.reach)) (Config.longestRecord - 1 : Nat))
    (by simp only [Config.longestRecord]; omega) (by simp only [Config.longestRecord]; omega)
  simp only [extended]
  simp only [Config.longestRecord] at this ⊢
  omega

/-- What reaches beyond the cap is the rest of a splice, at most 47 positions: the entry lies at most 47
positions before the capped end (R94). -/
theorem remainder_short {start n : Pos} {s : Nat} (hs : s ≤ 48) (hlow : 976 < posDiff n start)
    (hwithin : posDiff n (posAdd start 1023) ≤ 0)
    (hbeyond : posDiff (posAdd start 1023) n < (s : Int) - 1) :
    spanLength (posAdd (posAdd start 1023) 1) (posAdd n ((s : Int) - 1)) ≤ 1024 := by
  have hcap : posDiff (posAdd start 1023) start = 1023 := by
    rw [posDiff_posAdd (by rw [posDiff_self]; omega) (by rw [posDiff_self]; omega), posDiff_self]
    rfl
  have hhigh := posDiff_lt n start
  rw [posDiff_eq_sub start (by omega) (by omega), hcap] at hwithin hbeyond
  have hn := posAdd_posDiff n start
  generalize posDiff n start = o at *
  subst hn
  rw [posAdd_posAdd, posAdd_posAdd]
  have := spanLength_posAdd (p := start) (i := 1023 + 1) (j := o + ((s : Int) - 1)) (by omega) (by omega)
  omega

theorem extendRecord_bounded {w : Work} (h : w.lane.run.queue.Bounded) {r : DefectRecord}
    (hr : r ∈ w.lane.run.queue.records) (n : Entry) (m : Measures) {d : Demand} (hd : d.splice ≤ 48) :
    (extendRecord w r n m d).lane.run.queue.Bounded := by
  have hextended := extended_short (h.short r hr) w.lane n.pos d
  obtain ⟨⟨-, hstart, hstop⟩, -⟩ := addEnergy_keeps w.lane.run (extended w.lane r n.pos d) m n.pos
  unfold extendRecord
  dsimp only
  generalize addEnergy w.lane.run (extended w.lane r n.pos d) m n.pos = a at *
  obtain ⟨r', det⟩ := a
  dsimp only at *
  rw [← hstart, ← hstop] at hextended
  have hput : (Run.putRecord { w.lane.run with detector := det } r').queue.Bounded := h.update hextended
  split
  case isFalse => exact hput
  case isTrue hcap =>
    have hclosed : ((Run.putRecord { w.lane.run with detector := det } r').close r'
        .long).queue.Bounded := hput.update (r := { r' with state := .long }) hextended
    split
    case isTrue => exact openAt_bounded (w := w.setRun _) hclosed n false m hd
    case isFalse hwithin =>
      unfold openRemainder
      split
      case isFalse => exact hclosed
      case isTrue hbeyond =>
        obtain ⟨-, hreach⟩ := Demand.reach_le hd
        have hcap : 1023 < posDiff n.pos r.start + d.reach := of_decide_eq_true hcap
        have hend : r'.stop = posAdd r.start 1023 := by
          rw [hstop]
          simp only [extended, Config.longestRecord]
          congr 1
          omega
        rw [hend] at hwithin hbeyond ⊢
        exact openRecord_bounded (w := w.setRun _) hclosed
          (remainder_short hd (by omega) (by omega) hbeyond) _ _ _

theorem recordActions_bounded {w : Work} (h : w.lane.run.queue.Bounded) (n : Entry) (m : Measures)
    {d : Demand} (hd : d.splice ≤ 48) : (recordActions w n m d).lane.run.queue.Bounded := by
  unfold recordActions
  split
  case h_1 r hr =>
    obtain ⟨hr, -⟩ := openRecord_mem hr
    split
    · exact extendRecord_bounded h hr n m hd
    · obtain ⟨⟨-, hstart, hstop⟩, -⟩ := addEnergy_keeps w.lane.run r m n.pos
      exact h.update (by rw [hstart, hstop]; exact h.short r hr)
  case h_2 => exact openAt_bounded h n _ m hd

theorem closingTest_bounded {w : Work} (h : w.lane.run.queue.Bounded) (n : Pos) :
    (closingTest w n).lane.run.queue.Bounded := by
  unfold closingTest
  split
  case h_1 r hr =>
    obtain ⟨hr, -⟩ := openRecord_mem hr
    split
    · exact h.update (h.short r hr)
    · exact h
  case h_2 => exact h

theorem examine_bounded {w : Work} (h : w.lane.run.queue.Bounded)
    (hsplice : w.lane.params.get .spliceSpan ≤ 48) (n : Entry) :
    (examine w n).lane.run.queue.Bounded := by
  unfold examine
  split
  · exact h
  · obtain ⟨m, c, v, det, rfl, he, -⟩ := examineEntry_eq w n
    have hd : (demandOf w.settled.lane c m n).splice ≤ 48 := by
      have hp : w.settled.lane.params = w.lane.params := rfl
      simp only [demandOf, hp]
      split <;> omega
    rw [he]
    exact closingTest_bounded (recordActions_bounded (w := w.settled) h n m hd) n.pos

/-! ### The bounds through every row -/

/-- The parameters in their ranges, and the queue within its bounds. -/
structure Lane.QueueBounded (l : Lane) : Prop where
  params : l.ParamsOk
  queue : l.run.queue.Bounded

theorem Lane.QueueBounded.of_same {l l' : Lane} (h : l.QueueBounded) (hp : l'.params = l.params)
    (hq : l'.run.queue = l.run.queue) : l'.QueueBounded :=
  ⟨by rw [ParamsOk, hp]; exact h.params, by rw [hq]; exact h.queue⟩

theorem Lane.QueueBounded.of_empty {l l' : Lane} (h : l.QueueBounded) (hp : l'.params = l.params)
    (hq : l'.run.queue.records = []) : l'.QueueBounded :=
  ⟨by rw [ParamsOk, hp]; exact h.params, DefectQueue.bounded_of_empty hq⟩

theorem entryEvent_bounded {w : Work} (h : w.lane.QueueBounded) (o : Output) :
    (entryEvent w o).lane.run.queue.Bounded := by
  obtain ⟨hqueue, -⟩ := indexOutput_queue w o
  have hindexed : (indexOutput w o).lane.run.queue.Bounded := by rw [hqueue]; exact h.queue
  have hroom := makeRoom_bounded hindexed (indexOutput w o).lane.run.ring.window.length
  have hplaced (e : Entry) := (((indexOutput_keeps w o).trans
    (makeRoom_keeps (indexOutput w o).lane.run.ring.window.length _)).trans (placeEntry_keeps _ e)).1.params
  refine departureTest_bounded (examine_bounded (by rwa [placeEntry_queue]) ?_ _)
  rw [hplaced]
  exact (h.params .spliceSpan (by decide)).2

theorem queueBounded_keptInEvents : KeptInEvents Lane.QueueBounded where
  same h k := h.of_same k.params k.queue
  output p q w h :=
    have hadvanced : (w.setRun { w.lane.run with
        resampler := w.lane.run.resampler.advance }).lane.QueueBounded := h.of_same rfl rfl
    ⟨by rw [Lane.ParamsOk, produce, (entryEvent_keeps _ _).1.params]; exact h.params,
      entryEvent_bounded hadvanced (outputAt w.lane p q)⟩
  lost w h := by
    refine ⟨by rw [Lane.ParamsOk, (onSignalLost_keeps w).1.params]; exact h.params, ?_⟩
    cases hr : w.lane.run.queue.openRecord with
    | none => rw [onSignalLost_none hr]; exact h.queue
    | some r =>
      rw [onSignalLost_some hr]
      exact departureTest_bounded (w := ((w.raise .signalState).note .signalLost).setRun _)
        (h.queue.update (r := { r with state := .long }) (h.queue.short r (openRecord_mem hr).1))

theorem writeBackLane_bounded {w : Work} (h : w.lane.run.queue.Bounded) (b : BankId) (j : Job)
    (rs : List Int) : (writeBackLane b j rs w).lane.run.queue.Bounded := by
  unfold writeBackLane
  split
  case h_1 r hr =>
    obtain ⟨hjob, -⟩ := Option.filter_eq_some_iff.1 hr
    rw [writeResults_eq]
    exact departureTest_bounded (w := w.setRun _)
      (h.update (r := { r with state := .repaired, holding := none }) (h.short r (Lane.recordOfJob_mem hjob)))
  case h_2 => exact h

/-- No row takes a parameter out of its range, or a queue beyond its bounds (R89, R94, R97, R164). -/
theorem Work.ByRow.queueBounded {w v : Work} (h : w.ByRow v) (ok : w.lane.QueueBounded) :
    v.lane.QueueBounded := by
  have update (r : DefectRecord) (hr : spanLength r.start r.stop ≤ 1024) :
      (w.setRun { w.lane.run with queue := w.lane.run.queue.update r }).lane.QueueBounded :=
    ⟨ok.params, ok.queue.update hr⟩
  have stopped : (stopEffects w).lane.QueueBounded := by
    obtain ⟨a, b, latch, hl, -⟩ := stopEffects_lane w
    exact ok.of_empty (by rw [hl]; rfl) (by rw [hl]; rfl)
  cases h with
  | unchanged => exact ok
  | start _ => exact ok.of_empty rfl rfl
  | stop _ => exact stopped
  | reset =>
    by_cases hr : w.lane.state = .running
    · rw [resetLaneEffects_running hr]
      exact stopped.of_same rfl rfl
    · rw [resetLaneEffects_notRunning hr]
      exact ok.of_same rfl rfl
  | toDefaults _ => exact ⟨Lane.reset_paramsOk, ok.queue⟩
  | setParam p v _ =>
    obtain ⟨-, hparams, -⟩ := w.lane.writeParam_sameTracking p v
    have hrun : (w.lane.writeParam p v).run.queue = w.lane.run.queue := by rw [Lane.writeParam_run]
    refine ⟨?_, ?_⟩
    · rw [Lane.ParamsOk, Work.setLane_lane, hparams]
      exact ok.params.put p v
    · rw [Work.setLane_lane, hrun]
      exact ok.queue
  | writeTable t first vs _ _ => cases t <;> exact ok.of_same rfl rfl
  | enable _ | disable _ | setMask _ => exact ok.of_same rfl rfl
  | loadSegment i _ _ _ | unload i _ _ | requestEnd i _ _ _ _ _ | collect i _ _ _ _ =>
    cases i <;> exact ok.of_same rfl rfl
  | word f => exact queueBounded_keptInEvents.takeWord ok f
  | edge k => exact queueBounded_keptInEvents.takeEdge ok k
  | generate => exact queueBounded_keptInEvents.generateInstant ok
  | notice id => exact queueBounded_keptInEvents.notice ok id
  | load r b runs hr => exact update (loadedRecord w.lane r b runs) (ok.queue.short r (oldestQueued_mem hr).1)
  | startRepair j b r hr _ =>
    exact update { r with state := .inRepair } (ok.queue.short r (Lane.recordOfJob_mem hr))
  | writeBack b j rs =>
    exact ⟨by rw [Lane.ParamsOk, (writeBackLane_keeps b j rs w).1.params]; exact ok.params,
      writeBackLane_bounded ok.queue b j rs⟩

end Sys2Proof.Machine

namespace Sys2Proof.Settled

open Sys2Proof.Machine

/-- Settles O46: every row keeps the parameters' ranges and the queue's bounds, which rest on SPLICE_SPAN's
range; the rest of a splice beyond a capped record is short, as the entry lies near the capped end. -/
theorem recordsStayBounded : Obligations.RecordsStayBounded := by
  intro s t hparams hqueue hstep
  have ok : t.EachLane Lane.QueueBounded :=
    step_keeps_eachLane ⟨Lane.reset_paramsOk, DefectQueue.bounded_of_empty rfl⟩
      (fun _ _ hrow => hrow.queueBounded) (fun i => ⟨hparams i, Lane.queueOk_iff.1 (hqueue i)⟩) hstep
  exact ⟨fun i => (ok i).params, fun i => Lane.queueOk_iff.2 (ok i).queue⟩

end Sys2Proof.Settled

/-! # Slots stay lawful

The segment slots and the load order through each block and each row. Settles O51. -/

namespace Sys2Proof.Machine

/-! ### The slots of a lane -/

/-- At most one slot is RUNNING, and the load order lists the LOADED slots, each once (R144, R145). -/
structure Lane.SlotsLawful (l : Lane) : Prop where
  one : ∀ i j, (l.slot i).isRunning = true → (l.slot j).isRunning = true → i = j
  nodup : l.loadOrder.Nodup
  loaded : ∀ i, i ∈ l.loadOrder ↔ (l.slot i).isLoaded = true

/-- A lane's slots are as they should be when they are lawful, and slots and records are empty of a run
while the lane is not RUNNING. -/
theorem Lane.slotsOk_iff {l : Lane} :
    l.SlotsOk ↔ l.SlotsLawful ∧
      (l.state ≠ .running → (∀ i, (l.slot i).isRunning = false) ∧ l.run.queue.records = []) := by
  have both {P : SlotId → Prop} : (∀ i, P i) ↔ P .a ∧ P .b :=
    ⟨fun h => ⟨h _, h _⟩, fun h i => by cases i; exacts [h.1, h.2]⟩
  constructor
  · rintro ⟨hone, hstate, hrecords, hnodup, ha, hb⟩
    refine ⟨⟨both.2 ⟨both.2 ⟨?_, ?_⟩, both.2 ⟨?_, ?_⟩⟩, hnodup, both.2 ⟨ha, hb⟩⟩,
      fun hs => ⟨both.2 ⟨?_, ?_⟩, hrecords hs⟩⟩
    · exact fun _ _ => rfl
    · exact fun h k => absurd ⟨h, k⟩ hone
    · exact fun h k => absurd ⟨k, h⟩ hone
    · exact fun _ _ => rfl
    · exact Bool.eq_false_iff.2 fun h => hs (hstate (.inl h))
    · exact Bool.eq_false_iff.2 fun h => hs (hstate (.inr h))
  · rintro ⟨⟨hone, hnodup, hloaded⟩, hidle⟩
    refine ⟨fun ⟨h, k⟩ => SlotId.noConfusion (hone .a .b h k), fun h => ?_, fun hs => (hidle hs).2,
      hnodup, hloaded .a, hloaded .b⟩
    by_contra hs
    have hnone := (hidle hs).1
    exact h.elim (fun h => Bool.eq_false_iff.1 (hnone .a) h) fun h => Bool.eq_false_iff.1 (hnone .b) h

/-- A slot of the same kind in every place, and the load order as it was. -/
theorem Lane.SlotsLawful.of_kinds {l l' : Lane} (h : l.SlotsLawful)
    (hr : ∀ i, (l'.slot i).isRunning = true → (l.slot i).isRunning = true)
    (hl : ∀ i, (l'.slot i).isLoaded = (l.slot i).isLoaded) (ho : l'.loadOrder = l.loadOrder) :
    l'.SlotsLawful :=
  ⟨fun i j hi hj => h.one i j (hr i hi) (hr j hj), by rw [ho]; exact h.nodup,
    fun i => by rw [ho, hl]; exact h.loaded i⟩

theorem Lane.SlotsLawful.of_same {l l' : Lane} (h : l.SlotsLawful) (ha : l'.slotA = l.slotA)
    (hb : l'.slotB = l.slotB) (ho : l'.loadOrder = l.loadOrder) : l'.SlotsLawful := by
  have hslot (i : SlotId) : l'.slot i = l.slot i := by cases i; exacts [ha, hb]
  exact h.of_kinds (fun i hi => hslot i ▸ hi) (fun i => by rw [hslot]) ho

/-- A slot given a content that is LOADED as before, and RUNNING only as before. -/
theorem Lane.SlotsLawful.setSlot {l : Lane} (h : l.SlotsLawful) {i : SlotId} {x : Slot}
    (hr : x.isRunning = true → (l.slot i).isRunning = true) (hl : x.isLoaded = (l.slot i).isLoaded) :
    (l.setSlot i x).SlotsLawful := by
  refine h.of_kinds (fun j => ?_) (fun j => ?_) (by simp)
  · by_cases hj : j = i
    · subst hj; rwa [Lane.slot_setSlot_same]
    · rw [Lane.slot_setSlot_other _ _ _ _ hj]; exact id
  · by_cases hj : j = i
    · subst hj; rwa [Lane.slot_setSlot_same]
    · rw [Lane.slot_setSlot_other _ _ _ _ hj]

/-- A slot rewritten together with the load order. -/
def Lane.withSlot (l : Lane) (i : SlotId) (x : Slot) (o : List SlotId) : Lane :=
  { l.setSlot i x with loadOrder := o }

section WithSlot

variable (l : Lane) (i : SlotId) (x : Slot) (o : List SlotId)

@[simp] theorem Lane.withSlot_slot_same : (l.withSlot i x o).slot i = x := by
  cases i <;> rfl

theorem Lane.withSlot_slot_other {j : SlotId} (h : j ≠ i) : (l.withSlot i x o).slot j = l.slot j := by
  rw [← Lane.slot_setSlot_other l i j x h]
  cases j <;> rfl

@[simp] theorem Lane.withSlot_loadOrder : (l.withSlot i x o).loadOrder = o := rfl

@[simp] theorem Lane.withSlot_state : (l.withSlot i x o).state = l.state := l.setSlot_state i x

@[simp] theorem Lane.withSlot_run : (l.withSlot i x o).run = l.run := l.setSlot_run i x

end WithSlot

/-- A LOADED slot leaves the load order: it empties, or becomes the one RUNNING slot (R148, R150). -/
theorem Lane.SlotsLawful.unload {l : Lane} (h : l.SlotsLawful) (i : SlotId) {x : Slot}
    (hx : x.isLoaded = false) (hr : x.isRunning = true → ∀ j, (l.slot j).isRunning = false) :
    (l.withSlot i x (l.loadOrder.filter (· ≠ i))).SlotsLawful := by
  have other {j : SlotId} (hj : j ≠ i) := l.withSlot_slot_other i x (l.loadOrder.filter (· ≠ i)) hj
  refine ⟨fun j k hj hk => ?_, h.nodup.filter _, fun j => ?_⟩
  · by_cases hji : j = i <;> by_cases hki : k = i
    · rw [hji, hki]
    · rw [hji, Lane.withSlot_slot_same] at hj
      rw [other hki, hr hj k] at hk
      cases hk
    · rw [hki, Lane.withSlot_slot_same] at hk
      rw [other hji, hr hk j] at hj
      cases hj
    · rw [other hji] at hj
      rw [other hki] at hk
      exact h.one j k hj hk
  · by_cases hj : j = i
    · subst hj; simp [hx]
    · rw [other hj]
      simp [hj, h.loaded j]

/-- An EMPTY slot loads, last in the load order (R145). -/
theorem Lane.SlotsLawful.load {l : Lane} (h : l.SlotsLawful) {i : SlotId} (hi : (l.slot i).isEmpty = true)
    (d : Descriptor) : (l.withSlot i (.loaded d) (l.loadOrder ++ [i])).SlotsLawful := by
  have other {j : SlotId} (hj : j ≠ i) := l.withSlot_slot_other i (.loaded d) (l.loadOrder ++ [i]) hj
  have hnot : i ∉ l.loadOrder := fun hmem => by
    have hloaded := (h.loaded i).1 hmem
    cases hs : l.slot i <;> simp [hs, Slot.isEmpty, Slot.isLoaded] at hi hloaded
  have running (j : SlotId) (hj : ((l.withSlot i (.loaded d) (l.loadOrder ++ [i])).slot j).isRunning = true) :
      (l.slot j).isRunning = true := by
    by_cases hji : j = i
    · rw [hji, Lane.withSlot_slot_same] at hj; cases hj
    · rwa [other hji] at hj
  refine ⟨fun j k hj hk => h.one j k (running j hj) (running k hk), ?_, fun j => ?_⟩
  · rw [Lane.withSlot_loadOrder, ← List.concat_eq_append]
    exact h.nodup.concat hnot
  · by_cases hj : j = i
    · subst hj; simp [Slot.isLoaded]
    · simp [other hj, hj, h.loaded j]

theorem Lane.SlotsLawful.of_empty {l : Lane} (h : ∀ i, l.slot i = .empty) (ho : l.loadOrder = []) :
    l.SlotsLawful :=
  ⟨fun i j hi _ => absurd (h i ▸ hi) (by decide), by simp [ho], fun i => by simp [h, ho, Slot.isLoaded]⟩

theorem Lane.SlotsLawful.count {l : Lane} (h : l.SlotsLawful) (f : Report → Report) :
    (l.count f).SlotsLawful := by
  refine h.of_kinds (fun i hi => ?_) (fun i => ?_) (by simp) <;> rw [Lane.slot_count] at *
  · split at hi
    · rwa [Slot.count_isRunning] at hi
    · exact hi
  · split
    · exact Slot.count_isLoaded f _
    · rfl

/-! ### The smallest operations -/

/-- From w to w' lawful slots stay lawful. -/
def Work.KeepsSlots (w w' : Work) : Prop := w.lane.SlotsLawful → w'.lane.SlotsLawful

namespace Work.KeepsSlots

theorem refl (w : Work) : w.KeepsSlots w := fun h => h

theorem trans {a b c : Work} (h : a.KeepsSlots b) (k : b.KeepsSlots c) : a.KeepsSlots c := fun ok => k (h ok)

/-- What leaves the slots and the load order keeps them. -/
theorem of_same {w w' : Work} (ha : w'.lane.slotA = w.lane.slotA := by rfl)
    (hb : w'.lane.slotB = w.lane.slotB := by rfl) (ho : w'.lane.loadOrder = w.lane.loadOrder := by rfl) :
    w.KeepsSlots w' := fun h => h.of_same ha hb ho

section After

variable {a w : Work} (h : a.KeepsSlots w)
include h

theorem setRun (r : Run) : a.KeepsSlots (w.setRun r) := h.trans of_same

theorem setFront (f : FrontEnd) : a.KeepsSlots (w.setFront f) := h.trans of_same

theorem count (f : Report → Report) : a.KeepsSlots (w.count f) := h.trans fun ok => ok.count f

theorem raise (c : Condition) : a.KeepsSlots (w.raise c) := h.trans of_same

theorem noteIf (b : Bool) (e : StepEvent) : a.KeepsSlots (w.noteIf b e) :=
  h.trans (of_same (by simp) (by simp) (by simp))

end After

theorem ite {a x y : Work} {c : Prop} [Decidable c] (hx : a.KeepsSlots x) (hy : a.KeepsSlots y) :
    a.KeepsSlots (if c then x else y) := by
  split <;> assumption

end Work.KeepsSlots

open Work.KeepsSlots in
/-- A block offered counts, and may raise a condition. -/
theorem offerBlock_slots (w : Work) (d : Descriptor) (p : Nat) (vs : List Int) :
    w.KeepsSlots (offerBlock w d p vs) := by
  have hsent (f : Frame) : w.KeepsSlots (w.enqueue f) := of_same
  have hdropped (n : Nat) : w.KeepsSlots { w with streamDrops := n } := of_same
  unfold offerBlock
  exact ite ((hsent _).count _) (((hdropped _).count _).raise _)

/-! ### The judgement of a departure -/

theorem Slot.finish_isLoaded (reason : EndReason) (x : Slot) : (x.finish reason).isLoaded = x.isLoaded := by
  cases x <;> rfl

theorem Slot.finish_isRunning (reason : EndReason) (x : Slot) : (x.finish reason).isRunning = false := by
  cases x <;> rfl

theorem endSegment_keepsSlots (w : Work) (i : SlotId) (reason : EndReason) :
    w.KeepsSlots (endSegment w i reason) := by
  have hfinish (v : Work) :
      v.KeepsSlots (v.setLane (v.lane.setSlot i ((v.lane.slot i).finish reason))) := fun ok =>
    ok.setSlot (fun hr => by rw [Slot.finish_isRunning] at hr; cases hr) (Slot.finish_isLoaded ..)
  unfold endSegment
  split
  · dsimp only
    split
    · exact ((hfinish w).setRun _).raise _
    · exact (((offerBlock_slots w _ _ _).trans (hfinish _)).setRun _).raise _
  · exact .refl w

theorem endTest_keepsSlots (w : Work) (e : Entry) : w.KeepsSlots (endTest w e) := by
  unfold endTest
  split
  case h_1 => exact .refl w
  case h_2 i _ =>
    split
    case h_1 d r req m hs =>
      have hmark : w.KeepsSlots (w.setLane (w.lane.setSlot i (.running d r req (m + 1)))) := fun ok =>
        ok.setSlot (fun _ => by rw [hs]; rfl) (by rw [hs]; rfl)
      exact .ite (endSegment_keepsSlots w i _)
        (.ite (.ite ((endSegment_keepsSlots w i _).trans .of_same) hmark) (.refl w))
    case h_2 => exact .refl w

theorem Lane.runningSlot_eq_none {l : Lane} (h : l.runningSlot = none) (i : SlotId) :
    (l.slot i).isRunning = false := by
  unfold Lane.runningSlot at h
  cases hA : l.slotA.isRunning <;> cases hB : l.slotB.isRunning <;> simp [hA, hB] at h
  cases i; exacts [hA, hB]

/-- A segment starts only while none is RUNNING (R146, R148). -/
theorem startTest_keepsSlots (w : Work) (e : Entry) : w.KeepsSlots (startTest w e) := by
  unfold startTest
  split
  case h_1 i hnone _ =>
    unfold startSegment
    split
    case h_1 d _ =>
      have hstart : w.KeepsSlots (w.setLane { w.lane.setSlot i (.running d (Report.fresh e.pos) false 0) with
          loadOrder := (w.lane.setSlot i (.running d (Report.fresh e.pos) false 0)).loadOrder.filter
            (· ≠ i) }) := fun ok => by
        rw [Lane.setSlot_loadOrder]
        exact ok.unload i rfl fun _ => Lane.runningSlot_eq_none hnone
      exact (hstart.setRun _).raise _
    case h_2 => exact .refl w
  case h_2 => exact .refl w

theorem judge_keepsSlots (w : Work) (e : Entry) (y : Int) : w.KeepsSlots (judge w e y) := by
  have hcounted (v : Work) (r : Run) (f : Report → Report) : v.KeepsSlots ((v.setRun r).count f) :=
    ((Work.KeepsSlots.refl v).setRun r).count f
  have hsample (v : Work) (d : Descriptor) : v.KeepsSlots (outputSample v d e y) := by
    unfold outputSample
    exact .ite (((hcounted v _ _).setRun _).trans (offerBlock_slots _ _ _ _)) (hcounted v _ _)
  have hout (v : Work) : v.KeepsSlots (outputStep v e y) := by
    unfold outputStep
    split
    · exact hsample v _
    · exact .refl v
  exact ((endTest_keepsSlots w e).trans (startTest_keepsSlots _ e)).trans (hout _)

/-! ### A departure -/

theorem retireAt_keepsSlots (w : Work) (e : Entry) (r : Option DefectRecord) :
    w.KeepsSlots (retireAt w e r) := by
  have hoffer (v : Work) (g : BitVec 16) (q : DefectRecord) : v.KeepsSlots (offerReport v g q) := by
    unfold offerReport
    exact .ite .of_same (((Work.KeepsSlots.refl v).count _).raise _)
  have hretire (d : Option Descriptor) (q : DefectRecord) : w.KeepsSlots (retire w d q) := by
    have hcounted := (Work.KeepsSlots.refl w).count (Report.retired q)
    unfold retire
    cases d with
    | none => exact hcounted.setRun _
    | some d => exact (Work.KeepsSlots.ite (hcounted.trans (hoffer _ _ _)) hcounted).setRun _
  cases r with
  | none => exact .refl w
  | some q => exact .ite (hretire _ q) (.refl w)

/-- The judgement alone moves a slot in a departure (R53). -/
theorem depart_keepsSlots (w : Work) : w.KeepsSlots (depart w) := by
  cases hw : w.lane.run.ring.window with
  | nil => rw [depart_of_empty hw]; exact .refl w
  | cons e es =>
    have hreduced (v : Work) (xd : Int) : v.KeepsSlots (hissDepart (humDepart v e) xd) :=
      .of_same (by simp [hissDepart, humDepart, teachTemplates, countBoundaries])
        (by simp [hissDepart, humDepart, teachTemplates, countBoundaries])
        (by simp [hissDepart, humDepart, teachTemplates, countBoundaries])
    have hpassed : w.KeepsSlots (w.passed e es) := .of_same
    rw [depart_eq hw, departStages_eq _ _ _ rfl]
    exact ((hpassed.trans (hreduced _ _)).trans (judge_keepsSlots _ _ _)).trans (retireAt_keepsSlots _ _ _)

theorem departureTest_keepsSlots (w : Work) : w.KeepsSlots (departureTest w) := fun ok =>
  departureTest_induction (P := fun v => v.lane.SlotsLawful) ok fun v hv _ => depart_keepsSlots v hv

/-! ### An entry event -/

theorem openRecord_keepsSlots (w : Work) (a b : Pos) (c : Causes) (p : Nat) (t : Nat × Nat) :
    w.KeepsSlots (openRecord w a b c p t) := by
  have hdrop : w.KeepsSlots (dropRecord w) := by
    have hcounted := (Work.KeepsSlots.refl w).count fun r =>
      { r with recordsDropped := bump r.recordsDropped }
    unfold dropRecord
    exact .ite hcounted ((hcounted.raise _).setRun _)
  unfold openRecord
  exact .ite hdrop .of_same

theorem recordActions_keepsSlots (w : Work) (n : Entry) (m : Measures) (d : Demand) :
    w.KeepsSlots (recordActions w n m d) := by
  have hset (r : Run) : w.KeepsSlots (w.setRun r) := .of_same
  have hopenAt (v : Work) (b : Bool) : v.KeepsSlots (openAt v n b m d) :=
    .ite (.refl v) (openRecord_keepsSlots v _ _ _ _ _)
  have hrest (v : Work) (p : Pos) : v.KeepsSlots (openRemainder v n p d) :=
    .ite (openRecord_keepsSlots v _ _ _ _ _) (.refl v)
  unfold recordActions
  split
  · refine .ite ?_ (hset _)
    unfold extendRecord
    exact .ite (.ite ((hset _).trans (hopenAt _ _)) ((hset _).trans (hrest _ _))) (hset _)
  · exact hopenAt w _

theorem examine_keepsSlots (w : Work) (n : Entry) : w.KeepsSlots (examine w n) := by
  have hclosing (v : Work) : v.KeepsSlots (closingTest v n.pos) := by
    unfold closingTest
    split
    · exact .ite .of_same (.refl v)
    · exact .refl v
  refine .ite (.refl w) ?_
  obtain ⟨m, c, v, det, rfl, he, -⟩ := examineEntry_eq w n
  have hsettled : w.KeepsSlots w.settled := .of_same
  rw [he]
  exact ((hsettled.trans (recordActions_keepsSlots _ n m _)).trans (hclosing _)).setRun _

theorem makeRoom_keepsSlots (n : Nat) (w : Work) : w.KeepsSlots (makeRoom n w) := fun ok =>
  makeRoom_induction (P := fun v => v.lane.SlotsLawful) n ok fun v hv _ => by
    have hfreed : v.KeepsSlots v.freed := by
      unfold Work.freed
      split
      · exact .of_same
      · exact .refl v
    rw [makeRoomOnce_eq]
    exact hfreed.trans (depart_keepsSlots _) hv

theorem entryEvent_keepsSlots (w : Work) (o : Output) : w.KeepsSlots (entryEvent w o) := by
  have hindex : w.KeepsSlots (indexOutput w o) :=
    .of_same (by rw [indexOutput_lane]) (by rw [indexOutput_lane]) (by rw [indexOutput_lane])
  have hplace (v : Work) (e : Entry) : v.KeepsSlots (placeEntry v e) :=
    ((Work.KeepsSlots.refl v).setRun _).count _
  exact (((hindex.trans (makeRoom_keepsSlots _ _)).trans (hplace _ _)).trans (examine_keepsSlots _ _)).trans
    (departureTest_keepsSlots _)

/-! ### An instant -/

theorem resampleInstant_keepsSlots (next : PrevInstant) (splice : Bool) (w : Work) :
    w.KeepsSlots (resampleInstant next splice w) := by
  have hsplice : w.KeepsSlots (w.withSplice next.index splice) := .of_same
  have hproduced (p : PrevInstant) (n : Nat) : ∀ v : Work, v.KeepsSlots ((produce p next)^[n] v) := by
    induction n with
    | zero => exact .refl
    | succ n ih => exact fun v => (Work.KeepsSlots.trans .of_same (entryEvent_keepsSlots _ _)).trans (ih _)
  cases hp : w.lane.run.resampler.prev with
  | none => rw [resampleInstant_first hp]; exact hsplice.setRun _
  | some p =>
    obtain ⟨n, -, hn, -⟩ := resampleInstant_outputs hp next splice
    rw [hn]
    exact (hsplice.trans (hproduced p n _)).setRun _

theorem onSignalLost_keepsSlots (w : Work) : w.KeepsSlots (onSignalLost w) := by
  have hraised : w.KeepsSlots ((w.raise .signalState).note .signalLost) := .of_same
  cases hr : w.lane.run.queue.openRecord with
  | none => rw [onSignalLost_none hr]; exact hraised
  | some r =>
    rw [onSignalLost_some hr]
    exact (hraised.setRun _).trans (departureTest_keepsSlots _)

theorem watchSignal_keepsSlots (q : Quality) (w : Work) : w.KeepsSlots (watchSignal q w) := by
  have hfront := (Work.KeepsSlots.refl w).setFront (w.lane.front.watch q)
  unfold watchSignal
  dsimp only
  split
  · exact hfront.trans (onSignalLost_keepsSlots _)
  · exact hfront.trans .of_same
  · exact hfront

theorem trackInstant_keepsSlots (k : Pos) (n : Nat) (w : Work) : w.KeepsSlots (trackInstant k n w) := by
  have hcounted (v : Work) (f : Report → Report) (t : Tracker) : v.KeepsSlots ((v.count f).putTracker t) :=
    ((Work.KeepsSlots.refl v).count f).trans (.ite .of_same .of_same)
  have hedge (v : Work) : v.KeepsSlots (trackEdge k v) :=
    (((hcounted v _ _).setRun _).noteIf _ _).noteIf _ _
  have hedges (n : Nat) : ∀ v : Work, v.KeepsSlots (trackEdges k n v) := by
    induction n with
    | zero => exact .refl
    | succ n ih => exact fun v => (hedge v).trans (ih _)
  exact (hedges n w).trans ((hcounted _ _ _).noteIf _ _)

theorem completeInstant_keepsSlots (x : Int) (h : Option Halves) (q : Quality) (es : List EdgeKind)
    (w : Work) : w.KeepsSlots (completeInstant x h q es w) := by
  have hrestep (v : Work) (e : Int) : v.KeepsSlots (v.restep e) := .ite (.refl v) .of_same
  exact ((((Work.KeepsSlots.refl w).setFront _).trans (watchSignal_keepsSlots q _)).trans
    ((trackInstant_keepsSlots _ _ _).trans (hrestep _ _))).trans (resampleInstant_keepsSlots _ _ _)

theorem completeSensor_keepsSlots (x : Int) (h : Option Halves) (q : Quality) (w : Work) :
    w.KeepsSlots (completeSensor x h q w) :=
  ((Work.KeepsSlots.refl w).setFront _).trans (completeInstant_keepsSlots _ _ _ _ _)

theorem takeWord_keepsSlots (f : SensorFields) (w : Work) : w.KeepsSlots (takeWord f w) := by
  have hfront (g : FrontEnd) := (Work.KeepsSlots.refl w).setFront g
  unfold takeWord
  refine .ite (.ite ?_ (completeSensor_keepsSlots _ _ _ w)) (.refl w)
  unfold takeDual
  split
  · exact hfront _
  · exact (hfront _).count _
  · exact (hfront _).trans (completeSensor_keepsSlots _ _ _ _)
  · exact (Work.KeepsSlots.refl w).count _

theorem generateInstant_keepsSlots (w : Work) : w.KeepsSlots (generateInstant w) := by
  unfold generateInstant
  exact .ite (((Work.KeepsSlots.refl w).setRun _).trans (completeInstant_keepsSlots _ _ _ _ _)) (.refl w)

/-! ### The slots through every row -/

/-- Lawful slots, and no run's slot or record on a lane that is not RUNNING (R97, R98, R144, R145). -/
structure Lane.SlotsHeld (l : Lane) : Prop where
  slots : l.SlotsLawful
  idle : l.state ≠ .running → (∀ i, (l.slot i).isRunning = false) ∧ l.run.queue.records = []

/-- On a RUNNING lane an event keeps what it keeps of the slots. -/
theorem Lane.SlotsHeld.event {w v : Work} (h : w.lane.SlotsHeld) (hr : w.lane.state = .running)
    (hk : w.Keeps v) (hs : w.KeepsSlots v) : v.lane.SlotsHeld :=
  ⟨hs h.slots, fun hidle => absurd (hk.state.trans hr) hidle⟩

theorem Lane.SlotsHeld.of_slots {l l' : Lane} (h : l.SlotsHeld) (ha : l'.slotA = l.slotA)
    (hb : l'.slotB = l.slotB) (ho : l'.loadOrder = l.loadOrder)
    (hs : l'.state ≠ .running → l.state ≠ .running)
    (hq : l.run.queue.records = [] → l'.run.queue.records = []) : l'.SlotsHeld := by
  refine ⟨h.slots.of_same ha hb ho, fun hidle => ?_⟩
  obtain ⟨hslots, hrecords⟩ := h.idle (hs hidle)
  have hslot (i : SlotId) : l'.slot i = l.slot i := by cases i; exacts [ha, hb]
  exact ⟨fun i => by rw [hslot]; exact hslots i, hq hrecords⟩

theorem Lane.SlotsHeld.of_cleared {l : Lane} (hs : ∀ i, l.slot i = .empty) (ho : l.loadOrder = [])
    (hq : l.state ≠ .running → l.run.queue.records = []) : l.SlotsHeld :=
  ⟨.of_empty hs ho, fun hidle => ⟨fun i => by rw [hs]; rfl, hq hidle⟩⟩

/-- A lane whose one RUNNING slot has ended, with no record left (R5). -/
theorem stopEffects_slotsHeld {w : Work} (h : w.lane.SlotsHeld) : (stopEffects w).lane.SlotsHeld := by
  have hdiscard (v : Work) (hv : v.lane.SlotsLawful) (hnone : ∀ i, (v.lane.slot i).isRunning = false) :
      (v.setLane v.lane.discard).lane.SlotsHeld :=
    ⟨hv.of_same rfl rfl rfl, fun _ => ⟨fun i => by cases i; exacts [hnone .a, hnone .b], rfl⟩⟩
  unfold stopEffects
  cases hi : w.lane.runningSlot with
  | none => exact hdiscard w h.slots (Lane.runningSlot_eq_none hi)
  | some i =>
    obtain ⟨d, r, q, m, hs⟩ := Lane.exists_of_runningSlot hi
    obtain ⟨r', latch, hlane, -⟩ := endSegment_running hi hs .laneStopped
    refine hdiscard _ (endSegment_keepsSlots w i _ h.slots) fun j => ?_
    have hslot : (endSegment w i .laneStopped).lane.slot j =
        (w.lane.setSlot i (.finished d r' .laneStopped)).slot j := by
      rw [hlane]; cases j <;> rfl
    rw [hslot]
    by_cases hj : j = i
    · subst hj; rw [Lane.slot_setSlot_same]; rfl
    · rw [Lane.slot_setSlot_other _ _ _ _ hj]
      exact Bool.eq_false_iff.2 fun hr => hj (h.slots.one j i hr (Lane.runningSlot_eq_some.1 hi).1)

theorem Lane.slotToLoad_isEmpty {l : Lane} {i : SlotId} (h : l.slotToLoad = some i) :
    (l.slot i).isEmpty = true := by
  unfold Lane.slotToLoad at h
  cases hA : l.slotA.isEmpty <;> cases hB : l.slotB.isEmpty <;> simp [hA, hB] at h <;> subst h
  exacts [hB, hA, hA]

/-- A parameter write leaves the slots (R164). -/
theorem Lane.writeParam_slots (l : Lane) (p : Param) (v : Int) :
    (l.writeParam p v).slotA = l.slotA ∧ (l.writeParam p v).slotB = l.slotB ∧
      (l.writeParam p v).loadOrder = l.loadOrder := by
  unfold writeParam consequences
  split
  case h_5 => split <;> exact ⟨rfl, rfl, rfl⟩
  all_goals exact ⟨rfl, rfl, rfl⟩

/-- No row leaves slots or load order unlawful (R97, R98, R144, R145). -/
theorem Work.ByRow.slotsHeld {w v : Work} (h : w.ByRow v) (ok : w.lane.SlotsHeld) : v.lane.SlotsHeld := by
  have update (r : DefectRecord) :
      (w.setRun { w.lane.run with queue := w.lane.run.queue.update r }).lane.SlotsHeld :=
    ok.of_slots rfl rfl rfl (fun h => h) fun hq => by simp [DefectQueue.update, hq]
  -- a slot rewritten by a command, which leaves the lane's state and records
  have rewritten {l : Lane} (hl : l.SlotsLawful) (hs : l.state = w.lane.state)
      (hr : ∀ i, (l.slot i).isRunning = true → (w.lane.slot i).isRunning = true)
      (hq : l.run = w.lane.run) : l.SlotsHeld := by
    refine ⟨hl, fun hidle => ?_⟩
    obtain ⟨hslots, hrecords⟩ := ok.idle (hs ▸ hidle)
    exact ⟨fun i => Bool.eq_false_iff.2 fun hi => Bool.eq_false_iff.1 (hslots i) (hr i hi),
      by rw [hq, hrecords]⟩
  have other {i : SlotId} {x : Slot} {o : List SlotId}
      (hx : x.isRunning = true → (w.lane.slot i).isRunning = true) (j : SlotId)
      (hj : ((w.lane.withSlot i x o).slot j).isRunning = true) : (w.lane.slot j).isRunning = true := by
    by_cases hji : j = i
    · subst hji
      exact hx (by rwa [Lane.withSlot_slot_same] at hj)
    · rwa [Lane.withSlot_slot_other _ _ _ _ hji] at hj
  cases h with
  | unchanged => exact ok
  | enable hs | disable hs => exact ok.of_slots rfl rfl rfl (fun _ => by simp [hs]) fun h => h
  | start hs => exact ok.of_slots rfl rfl rfl (fun _ => by simp [hs]) fun _ => rfl
  | stop _ => exact stopEffects_slotsHeld ok
  | reset =>
    have hcleared (l : Lane) (hq : l.state ≠ .running → l.run.queue.records = []) : l.cleared.SlotsHeld :=
      .of_cleared (fun i => by cases i <;> rfl) rfl hq
    by_cases hr : w.lane.state = .running
    · rw [resetLaneEffects_running hr]
      exact hcleared _ fun hidle => ((stopEffects_slotsHeld ok).idle hidle).2
    · rw [resetLaneEffects_notRunning hr]
      exact hcleared _ fun hidle => (ok.idle hidle).2
  | toDefaults _ | setMask _ => exact ok.of_slots rfl rfl rfl (fun h => h) fun h => h
  | setParam p v _ =>
    obtain ⟨hstate, -⟩ := w.lane.writeParam_sameTracking p v
    obtain ⟨ha, hb, ho⟩ := w.lane.writeParam_slots p v
    exact ok.of_slots ha hb ho (fun hidle => by rwa [Work.setLane_lane, hstate] at hidle)
      fun hq => by rw [Work.setLane_lane, Lane.writeParam_run]; exact hq
  | writeTable t first vs _ _ => cases t <;> exact ok.of_slots rfl rfl rfl (fun h => h) fun h => h
  | loadSegment i d _ hi =>
    refine rewritten ?_ (by simp) (other (by simp [Slot.isRunning])) (by simp)
    rw [Lane.setSlot_loadOrder]
    exact ok.slots.load (Lane.slotToLoad_isEmpty hi) d
  | requestEnd i d r q m hs =>
    exact rewritten (ok.slots.setSlot (fun _ => by rw [hs]; rfl) (by rw [hs]; rfl)) (by simp)
      (other (o := (w.lane.setSlot i _).loadOrder) fun _ => by rw [hs]; rfl) (by simp)
  | unload i d hs =>
    refine rewritten ?_ (by simp) (other (by simp [Slot.isRunning])) (by simp)
    rw [Lane.setSlot_loadOrder]
    exact ok.slots.unload i rfl (by simp [Slot.isRunning])
  | collect i d r reason hs =>
    exact rewritten (ok.slots.setSlot (by simp [Slot.isRunning]) (by rw [hs]; rfl)) (by simp)
      (other (o := (w.lane.setSlot i _).loadOrder) (by simp [Slot.isRunning])) (by simp)
  | word f =>
    cases ht : w.takesSensor with
    | false => rwa [takeWord_ignored ht]
    | true => exact ok.event ((takesSensor_iff w).1 ht).1 (takeWord_keeps f w) (takeWord_keepsSlots f w)
  | edge k =>
    cases ht : w.takesSensor with
    | false => rwa [takeEdge_ignored ht]
    | true => rw [takeEdge_held ht]; exact ok.of_slots rfl rfl rfl (fun h => h) fun h => h
  | generate =>
    by_cases hr : w.lane.state = .running
    · exact ok.event hr (generateInstant_keeps w) (generateInstant_keepsSlots w)
    · rwa [generateInstant, if_neg (by simp [hr])]
  | notice id =>
    unfold formLaneNotice
    split
    · exact ok.of_slots rfl rfl rfl (fun h => h) fun h => h
    · exact ok
  | load r b runs _ => exact update _
  | startRepair j b r _ _ => exact update _
  | writeBack b j rs =>
    unfold writeBackLane
    split
    case h_1 r hr =>
      have hmem := Lane.recordOfJob_mem (Option.filter_eq_some_iff.1 hr).1
      have hrunning : w.lane.state = .running := by
        by_contra hidle
        rw [(ok.idle hidle).2] at hmem
        cases hmem
      exact ok.event hrunning ((keeps_setRun _ _).trans (departureTest_keeps _).1)
        (((Work.KeepsSlots.refl w).setRun _).trans (departureTest_keepsSlots _))
    case h_2 => exact ok

end Sys2Proof.Machine

namespace Sys2Proof.Settled

open Sys2Proof.Machine

/-- Settles O51: every row keeps the slots lawful; on a lane that is not RUNNING no event runs a block,
since it takes no input and holds no record that a write-back could match. -/
theorem slotsStayLawful : Obligations.SlotsStayLawful := by
  intro s t hslots hstep
  have ok : t.EachLane Lane.SlotsHeld :=
    step_keeps_eachLane (.of_cleared (fun i => by cases i <;> rfl) rfl fun _ => rfl)
      (fun _ _ hrow => hrow.slotsHeld)
      (fun i => (Lane.slotsOk_iff.1 (hslots i)).elim fun h k => ⟨h, k⟩) hstep
  exact fun i => Lane.slotsOk_iff.2 ⟨(ok i).slots, (ok i).idle⟩

end Sys2Proof.Settled

/-! # The examination of an entry

What the detector measures of an entry, the causes its tests give, and what it learns. Settles O41. -/

namespace Sys2Proof.Machine

/-! ### Measures and causes -/

/-- The second difference of an entry, absent without a full history (R84). -/
def Detector.difference (d : Detector) (n : Entry) : Option Int :=
  match d.history with
  | i :: j :: _ => some (n.w - 2 * i.w + j.w)
  | _ => none

/-- The half energies of an entry, 0 where a half is missing (R96). -/
def Detector.halfEnergies (d : Detector) (n : Entry) : Nat × Nat :=
  match d.history with
  | i :: j :: _ =>
    match n.halves, i.halves, j.halves with
    | some h, some h₁, some h₂ =>
      ((h.a - 2 * h₁.a + h₂.a).natAbs, (h.b - 2 * h₁.b + h₂.b).natAbs)
    | _, _, _ => (0, 0)
  | _ => (0, 0)

/-- The half difference of an entry, absent on a single-rail lane (R85). -/
def Entry.halfDifference (n : Entry) : Option Int := n.halves.map fun h => 16 * (h.a - h.b)

theorem measure_eq (d : Detector) (n : Entry) :
    measure d n = ⟨d.difference n, n.halfDifference, (d.halfEnergies n).1, (d.halfEnergies n).2⟩ := by
  unfold measure Detector.difference Detector.halfEnergies Entry.halfDifference
  rcases d.history with _ | ⟨⟨_, h₁, _, _⟩, _ | ⟨⟨_, h₂, _, _⟩, _⟩⟩
  · rfl
  · rfl
  · cases n.halves <;> cases h₁ <;> cases h₂ <;> rfl

section Causes

variable (l : Lane) (m : Measures) (n : Entry)

/-- The causes of an entry under the settle count as it stands (R82, R86). -/
def Lane.causesOf : Causes := firingCauses l (decide (0 < l.run.detector.settle)) m n

/-- The impulse test is made with CLICK_ON ON and after settling (R84, R86). -/
theorem Lane.causesOf_impulse :
    (l.causesOf m n).impulse = true ↔
      l.run.detector.settle = 0 ∧ l.params.get .clickOn = 1 ∧
        ∃ x ∈ m.e, 16 * l.params.get .impulseFloor < 16 * |x| ∧
          l.params.get .impulseFactor * l.run.detector.envA < 4 * (16 * |x|) := by
  simp [Lane.causesOf, firingCauses, passes, Option.any_eq_true, and_assoc]

/-- The asymmetry test likewise (R85, R86). -/
theorem Lane.causesOf_asymmetry :
    (l.causesOf m n).asymmetry = true ↔
      l.run.detector.settle = 0 ∧ l.params.get .clickOn = 1 ∧
        ∃ x ∈ m.dlt16.map fun x => |x - l.run.detector.meanM|, 16 * l.params.get .asymFloor < x ∧
          l.params.get .asymFactor * l.run.detector.envAa < 4 * x := by
  simp [Lane.causesOf, firingCauses, passes, Option.any_eq_true, and_assoc]

theorem Lane.causesOf_sensor : (l.causesOf m n).sensor = n.sensor := rfl

end Causes

/-! ### What the detector learns -/

/-- The envelopes and the mean after an entry that did not fire (R87). -/
theorem Detector.learn_eq (d : Detector) (m : Measures) :
    d.learn m = { d with
      envA := m.e.elim d.envA fun x => d.envA + (16 * |x| - d.envA) / 64
      meanM := m.dlt16.elim d.meanM fun x => d.meanM + (x - d.meanM) / 256
      envAa := (m.dlt16.map fun x => |x - d.meanM|).elim d.envAa fun x => d.envAa + (x - d.envAa) / 64 } := by
  unfold learn
  cases m.e <;> cases m.dlt16 <;> rfl

/-- What an examination that has acted on the records makes of the detector: it learns, unless the entry
fired, and remembers the entry (R83, R87). -/
def Detector.examined (d : Detector) (fires : Bool) (m : Measures) (n : Entry) : Detector :=
  (if fires then d else d.learn m).remember m n

/-- The same, told from the detector D whose measures d has kept (R83, R87). -/
theorem Detector.examined_eq {D d : Detector} (h : D.KeepsMeasures d) (fires : Bool) (m : Measures)
    (n : Entry) :
    d.examined fires m n = { d with
      history := ⟨n.w, n.halves, m.absEA, m.absEB⟩ :: D.history.take 1
      settle := D.settle
      envA :=
        if fires = true then D.envA else m.e.elim D.envA fun x => D.envA + (16 * |x| - D.envA) / 64
      meanM :=
        if fires = true then D.meanM else m.dlt16.elim D.meanM fun x => D.meanM + (x - D.meanM) / 256
      envAa :=
        if fires = true then D.envAa
        else (m.dlt16.map fun x => |x - D.meanM|).elim D.envAa fun x => D.envAa + (x - D.envAa) / 64 } := by
  obtain ⟨hhistory, henvA, hmean, henvAa, hsettle⟩ := h
  rw [← hhistory, ← henvA, ← hmean, ← henvAa, ← hsettle]
  cases fires
  · rw [examined, if_neg (by decide), learn_eq]
    rfl
  · rfl

/-- An examination by its steps: settling, measures, causes, record actions, closing test, learning
(R83). -/
theorem examineEntry_steps (w : Work) (n : Entry) {m : Measures} {c : Causes} {v : Work}
    (hm : m = measure w.lane.run.detector n) (hc : c = w.lane.causesOf m n)
    (hv : v = closingTest (recordActions w.settled n m (demandOf w.lane c m n)) n.pos) :
    examineEntry w n =
      v.setRun { v.lane.run with detector := v.lane.run.detector.examined c.fires m n } := by
  subst hm hc hv
  rfl

end Sys2Proof.Machine

namespace Sys2Proof.Settled

open Sys2Proof.Machine

/-- Settles O41: the examination by its steps, whose record actions and closing test keep what the tests
compare with. -/
theorem examinationMeasuresAndLearns : Obligations.ExaminationMeasuresAndLearns := by
  refine ⟨fun w n h => if_pos h, ?_⟩
  rintro w v n D e dlt a eA eB c fires hlost rfl he henergies hdlt rfl hsensor himpulse hasym hsplice
    hfires hv
  have hm : (⟨e, dlt, eA, eB⟩ : Measures) = measure w.lane.run.detector n := by
    have hboth : (eA, eB) = w.lane.run.detector.halfEnergies n := henergies
    rw [measure_eq, ← hboth]
    exact congrArg₂ (fun x y => (⟨x, y, eA, eB⟩ : Measures)) he hdlt
  have hc : c = { w.lane.causesOf ⟨e, dlt, eA, eB⟩ n with
      splice := n.spliceMark && decide (0 < w.lane.params.get .spliceSpan) } := by
    have h1 : c.impulse = _ :=
      Bool.eq_iff_iff.2 (himpulse.trans (w.lane.causesOf_impulse ⟨e, dlt, eA, eB⟩ n).symm)
    have h2 : c.asymmetry = _ :=
      Bool.eq_iff_iff.2 (hasym.trans (w.lane.causesOf_asymmetry ⟨e, dlt, eA, eB⟩ n).symm)
    have h3 : c.splice = (n.spliceMark && decide (0 < w.lane.params.get .spliceSpan)) := by
      rw [Bool.eq_iff_iff, hsplice]
      simp [Work.p]
    obtain ⟨i, s, t, p⟩ := c
    simp only at h1 h2 h3 hsensor
    rw [h1, h2, h3, hsensor]
    rfl
  have hf : (w.lane.causesOf ⟨e, dlt, eA, eB⟩ n).fires = fires := by
    rw [hfires, hc]
    rfl
  have hdemand : demandOf w.lane (w.lane.causesOf ⟨e, dlt, eA, eB⟩ n) ⟨e, dlt, eA, eB⟩ n =
      { fires
        splice := if n.spliceMark = true then (w.p .spliceSpan).toNat else 0
        causes := c
        peak := if fires = true then (e.map Int.natAbs).getD 0 else 0 } := by
    rw [hc, ← hf]
    rfl
  rw [← hdemand] at hv
  have hkeeps : w.settled.lane.run.detector.KeepsMeasures v.lane.run.detector := by
    rw [hv]
    exact (recordActions_keepsMeasures _ _ _ _).trans (closingTest_keepsMeasures _ _)
  rw [examine, if_neg (by simp [hlost]), examineEntry_steps w n hm rfl hv, Detector.examined_eq hkeeps, hf]
  rfl

end Sys2Proof.Settled

/-! # An opening without an open record

Where a record that an entry opens starts and ends, and what its opening makes of the lane. Settles O42. -/

namespace Sys2Proof.Machine

/-! ### Positions told by numbers -/

theorem posAdd_natCast (p : Pos) (k : Nat) : posAdd p (k : Int) = p + BitVec.ofNat 32 k := by
  rw [posAdd, BitVec.ofInt_natCast]

theorem posAdd_neg_natCast (p : Pos) (k : Nat) : posAdd p (-(k : Int)) = p - BitVec.ofNat 32 k := by
  rw [posAdd, BitVec.ofInt_neg, BitVec.ofInt_natCast, sub_eq_add_neg]

/-- A demand that asks ends as far beyond its entry as it reaches (R90, R92, R95). -/
theorem posAdd_reach (p : Pos) {d : Demand} (h : d.asks = true) :
    posAdd p d.reach = p + BitVec.ofNat 32 d.beyond := by
  rw [reach_eq ((asks_iff d).1 h), posAdd_natCast]

/-- The start of an opening where the run has no last end (R90). -/
theorem openingStart_of_none (fires : Bool) (n : Pos) (older : Nat) :
    openingStart fires none n older = n - BitVec.ofNat 32 (if fires = true then min 2 older else 0) :=
  posAdd_neg_natCast _ _

/-- The start of an opening above a last end one or two positions before it (R90). -/
theorem openingStart_of_some (fires : Bool) (e n : Pos) (older : Nat) {k : Nat}
    (hk : k = if fires = true then min 2 older else 0) :
    openingStart fires (some e) n older =
      if n - e = 1 then n else if n - e = 2 then n - BitVec.ofNat 32 (min 1 k)
        else n - BitVec.ofNat 32 k := by
  have htwo : k ≤ 2 := by rw [hk]; split <;> omega
  unfold openingStart
  rw [posAdd_neg_natCast, ← hk, limitBack_eq e n k htwo]
  split
  · simp
  · split <;> rfl

/-! ### The opening -/

section Opening

variable {w : Work} {n : Entry} {m : Measures} {d : Demand}

theorem openAt_covered {covered : Bool} (h : covered = true ∨ d.asks = false) :
    openAt w n covered m d = w :=
  if_pos (by simpa using h)

/-- An uncovered entry that asks opens a record from its start to the end of its reach (R90, R95). -/
theorem openAt_uncovered (h : d.asks = true) :
    openAt w n false m d =
      openRecord w (openingStart d.fires w.lane.run.detector.lastEnd n.pos (w.lane.run.ring.fill - 1))
        (n.pos + BitVec.ofNat 32 d.beyond) d.causes d.peak
        (openingSums w.lane.run.detector m
          (openingStart d.fires w.lane.run.detector.lastEnd n.pos (w.lane.run.ring.fill - 1)) n.pos) := by
  rw [← posAdd_reach n.pos h]
  exact if_neg (by simp [h])

theorem recordActions_of_none (h : w.lane.run.queue.openRecord = none) (n : Entry) (m : Measures)
    (d : Demand) : recordActions w n m d = openAt w n n.link.isSome m d := by
  simp only [recordActions, h]

end Opening

end Sys2Proof.Machine

namespace Sys2Proof.Settled

open Sys2Proof.Machine

/-- Settles O42: with no record open the actions are an opening, a drop at a full queue. -/
theorem firingOpensOrDrops : Obligations.FiringOpensOrDrops := by
  intro w n m d hclosed
  rw [recordActions_of_none (openRecord_eq_none hclosed)]
  refine ⟨fun h => openAt_covered ?_, fun hlink hd => ?_⟩
  · refine h.imp (fun hlink => Option.isSome_iff_ne_none.2 hlink) fun ⟨hf, hs⟩ => ?_
    simp [Demand.asks, hf, hs]
  · rw [hlink, Option.isSome_none, openAt_uncovered ((asks_iff d).2 hd)]
    refine ⟨openRecord_full _ _ _ _ _, ?_⟩
    rintro start stop k hroom hk hnone hsome rfl
    have hstart : openingStart d.fires w.lane.run.detector.lastEnd n.pos (w.lane.run.ring.fill - 1) =
        start := by
      cases he : w.lane.run.detector.lastEnd with
      | none => rw [openingStart_of_none, ← hk, hnone he]
      | some e => rw [openingStart_of_some _ _ _ _ hk, hsome e he]
    rw [hstart, openRecord_eq _ _ _ _ _ hroom]
    rfl

end Sys2Proof.Settled

/-! # The open record

How an examined entry extends the open record and adds to its sums, what the cap makes of it, and the closing
test. Settles O43. -/

namespace Sys2Proof.Machine

/-! ### Distances from the record's start -/

theorem posDiff_of_after {n start : Pos} {o : Nat} (ho : o = (n - start).toNat) (hlt : o < 2147483648) :
    posDiff n start = (o : Int) := by
  rw [posDiff, BitVec.toInt_eq_toNat_of_lt (by omega), ho]

theorem posDiff_of_before {n start : Pos} {b : Nat} (hb : b = (start - n).toNat) (hlow : 1 ≤ b)
    (hhigh : b ≤ 2147483648) : posDiff n start = -(b : Int) := by
  have hneg : (n - start).toNat = 4294967296 - b := by
    rw [← neg_sub start n, BitVec.toNat_neg, ← hb]
    omega
  rw [posDiff, BitVec.toInt_eq_toNat_cond, hneg]
  omega

theorem toNat_add_sub_self (p : Pos) {k : Nat} (hk : k ≤ 1023) : (p + BitVec.ofNat 32 k - p).toNat = k := by
  rw [add_sub_cancel_left, BitVec.toNat_ofNat]
  omega

theorem posDiff_capEnd_start (start : Pos) : posDiff (start + 1023) start = 1023 := by
  rw [posDiff, add_sub_cancel_left]
  rfl

/-- The distance from the capped end of a record. -/
theorem posDiff_capEnd {n start : Pos} {o : Nat} (ho : posDiff n start = (o : Int)) :
    posDiff n (start + 1023) = (o : Int) - 1023 := by
  have hcap := posDiff_capEnd_start start
  have := posDiff_lt n start
  rw [posDiff_eq_sub start (by omega) (by omega), ho, hcap]

/-! ### The record that an entry extends -/

/-- The record extended to k positions beyond its start by a demand, with its causes, its peak and the
over-length mark (R92, R93). -/
def DefectRecord.grown (r : DefectRecord) (l : Lane) (d : Demand) (k : Nat) : DefectRecord :=
  { r with
    causes := r.causes.union d.causes
    peak := max r.peak d.peak
    stop := r.start + BitVec.ofNat 32 k
    overLength := r.overLength || decide (l.params.get .maxRepair < ((k + 1 : Nat) : Int)) }

theorem DefectRecord.grown_id (r : DefectRecord) (l : Lane) (d : Demand) (k : Nat) :
    (r.grown l d k).id = r.id := rfl

theorem DefectRecord.grown_start (r : DefectRecord) (l : Lane) (d : Demand) (k : Nat) :
    (r.grown l d k).start = r.start := rfl

theorem DefectRecord.grown_length (r : DefectRecord) (l : Lane) (d : Demand) {k : Nat} (hk : k ≤ 1023) :
    ((r.grown l d k).stop - (r.grown l d k).start).toNat = k := toNat_add_sub_self r.start hk

theorem DefectRecord.grown_capped (r : DefectRecord) (l : Lane) (d : Demand) :
    (r.grown l d 1023).stop = r.start + 1023 := by
  rw [grown]
  rfl

/-- The record with the quiet sums and an entry's half energies in its sums (R96). -/
def DefectRecord.summed (r : DefectRecord) (t : Detector) (m : Measures) : DefectRecord :=
  { r with
    sumA := min (min (r.sumA + t.quietA) 4294967295 + m.absEA) 4294967295
    sumB := min (min (r.sumB + t.quietB) 4294967295 + m.absEB) 4294967295 }

theorem extended_eq (l : Lane) {r : DefectRecord} {n : Pos} {d : Demand} {g k : Nat} {i : Int}
    (hg : g = (r.stop - r.start).toNat) (hle : g ≤ 1023) (hi : posDiff n r.start = i)
    (hd : d.fires = true ∨ 1 ≤ d.splice) (hk : (k : Int) = min (max (g : Int) (i + d.beyond)) 1023) :
    extended l r n d = r.grown l d k := by
  have hlength : posDiff r.stop r.start = (g : Int) := by
    rw [posDiff_of_spanLength (by unfold spanLength; omega), hg]
  have hstop : posAdd r.start (min (max (posDiff r.stop r.start) (posDiff n r.start + d.reach))
      (Config.longestRecord - 1 : Nat)) = r.start + BitVec.ofNat 32 k := by
    rw [hlength, hi, reach_eq hd, ← posAdd_natCast, hk]
    rfl
  have hlong : spanLength r.start (r.start + BitVec.ofNat 32 k) = k + 1 := by
    rw [spanLength, toNat_add_sub_self r.start (by omega)]
  unfold extended
  simp only [hstop, tooLong, hlong]
  rfl

theorem DefectRecord.summed_id (r : DefectRecord) (t : Detector) (m : Measures) : (r.summed t m).id = r.id :=
  rfl

theorem DefectRecord.summed_stop (r : DefectRecord) (t : Detector) (m : Measures) :
    (r.summed t m).stop = r.stop := rfl

/-- The record at the cap: an entry beyond its end leaves its sums as they were (R94; assumption 23). -/
def DefectRecord.atCap (r : DefectRecord) (l : Lane) (m : Measures) (d : Demand) (o : Nat) : DefectRecord :=
  if o ≤ 1023 then (r.grown l d 1023).summed l.run.detector m else r.grown l d 1023

theorem DefectRecord.atCap_id (r : DefectRecord) (l : Lane) (m : Measures) (d : Demand) (o : Nat) :
    (r.atCap l m d o).id = r.id := by
  rw [atCap, apply_ite DefectRecord.id, summed_id, grown_id, ite_self]

theorem DefectRecord.atCap_stop (r : DefectRecord) (l : Lane) (m : Measures) (d : Demand) (o : Nat) :
    (r.atCap l m d o).stop = r.start + 1023 := by
  rw [atCap, apply_ite DefectRecord.stop, summed_stop, grown_capped, ite_self]

/-! ### The sums -/

section Sums

variable {run : Run} {r : DefectRecord} {n : Pos} {o : Nat} (m : Measures)

/-- An entry of the span: the quiet sums join (R96). -/
theorem addEnergy_within (ho : posDiff n r.start = (o : Int)) (h : o ≤ (r.stop - r.start).toNat) :
    addEnergy run r m n =
      (r.summed run.detector m, { run.detector with quietA := 0, quietB := 0 }) := by
  unfold addEnergy
  simp only [ho, spanLength]
  rw [if_neg (by omega), if_pos (by omega)]
  rfl

/-- An entry beyond the end adds to the quiet sums (R96). -/
theorem addEnergy_beyond (ho : posDiff n r.start = (o : Int)) (h : (r.stop - r.start).toNat < o) :
    addEnergy run r m n =
      (r, { run.detector with
        quietA := min (run.detector.quietA + m.absEA) 4294967295
        quietB := min (run.detector.quietB + m.absEB) 4294967295 }) := by
  unfold addEnergy
  simp only [ho, spanLength]
  rw [if_neg (by omega), if_neg (by omega)]
  rfl

/-- The sums of a record at the cap (R94, R96). -/
theorem addEnergy_atCap {l : Lane} (d : Demand) (ho : posDiff n r.start = (o : Int)) :
    ∃ t, addEnergy l.run (r.grown l d 1023) m n = (r.atCap l m d o, t) ∧
      t = { l.run.detector with quietA := t.quietA, quietB := t.quietB } := by
  have hlength := r.grown_length l d (k := 1023) le_rfl
  have hstart : posDiff n (r.grown l d 1023).start = (o : Int) := by rw [DefectRecord.grown_start, ho]
  unfold DefectRecord.atCap
  split
  · exact ⟨_, addEnergy_within m hstart (by rw [hlength]; assumption), rfl⟩
  · exact ⟨_, addEnergy_beyond m hstart (by rw [hlength]; omega), rfl⟩

end Sums

/-! ### The rest of a splice -/

/-- What of a splice reaches beyond the capped end opens a record behind it (R94; assumption 10). -/
theorem openRemainder_eq (w : Work) {n : Entry} {start : Pos} {o : Nat} (ho : posDiff n.pos start = (o : Int))
    (hle : o ≤ 1023) (d : Demand) :
    openRemainder w n (start + 1023) d =
      if 1023 < o + (d.splice - 1) then
        openRecord w (start + 1024) (n.pos + BitVec.ofNat 32 (d.splice - 1)) ⟨false, false, false, true⟩ 0
          (0, 0)
      else w := by
  have hback : posDiff (start + 1023) n.pos = 1023 - (o : Int) := by
    have hcap := posDiff_capEnd_start start
    rw [posDiff_eq_sub start (by omega) (by omega), hcap, ho]
  have hnext : posAdd (start + 1023) 1 = start + 1024 := by
    rw [posAdd_one, BitVec.add_assoc]
    rfl
  unfold openRemainder
  rw [hback, hnext]
  by_cases hrest : 1023 < o + (d.splice - 1)
  · have hreach : (d.splice : Int) - 1 = (d.splice - 1 : Nat) := by omega
    rw [if_pos hrest, if_pos (by omega), hreach, posAdd_natCast]
  · rw [if_neg hrest, if_neg (by omega)]

/-! ### Putting the record back -/

section OpenRecord

variable {w : Work} {pre post : List DefectRecord} {r : DefectRecord}

/-- The run with the record in its place among the others, its span covered, and another detector. -/
def Run.withRecord (run : Run) (pre post : List DefectRecord) (r : DefectRecord) (t : Detector) : Run :=
  { run with
    ring := run.ring.covered r
    queue := { run.queue with records := pre ++ r :: post }
    detector := t }

/-- The record is closed as LONG at its capped end (R94). -/
def Run.capped (run : Run) (pre post : List DefectRecord) (r : DefectRecord) : Run :=
  run.withRecord pre post { r with state := .long }
    { run.detector with lastEnd := some r.stop, quietA := 0, quietB := 0 }

variable (hrecords : w.lane.run.queue.records = pre ++ r :: post)
  (hothers : ∀ q ∈ pre ++ post, q.state ≠ .opened ∧ q.id ≠ r.id)

include hrecords hothers

theorem putRecord_eq {r' : DefectRecord} (hid : r'.id = r.id) (t : Detector) :
    Run.putRecord { w.lane.run with detector := t } r' = w.lane.run.withRecord pre post r' t := by
  unfold Run.putRecord
  rw [cover_eq, update_eq hrecords (fun q hq => (hothers q hq).2) hid]
  rfl

theorem close_putRecord {r' : DefectRecord} (hid : r'.id = r.id) (t : Detector)
    (ht : t = { w.lane.run.detector with quietA := t.quietA, quietB := t.quietB }) :
    (Run.putRecord { w.lane.run with detector := t } r').close r' .long =
      w.lane.run.capped pre post r' := by
  rw [putRecord_eq hrecords hothers hid]
  unfold Run.close
  rw [update_eq (q := (w.lane.run.withRecord pre post r' t).queue) (r := r')
    (r' := { r' with state := .long }) rfl (fun q hq => hid ▸ (hothers q hq).2) rfl, ht]
  rfl

variable (hopen : r.state = .opened)
include hopen

theorem openRecord_some : w.lane.run.queue.openRecord = some r :=
  openRecord_eq_some hrecords (fun q hq => (hothers q (List.mem_append_left _ hq)).1) hopen

/-- The closing test of an open record (R93). -/
theorem closingTest_eq (n : Pos) :
    closingTest w n =
      if n = r.stop + 8 then
        (w.setRun { w.lane.run with
          queue := { w.lane.run.queue with
            records := pre ++ { r with state := if r.overLength = true then .long else .queued } :: post }
          detector := { w.lane.run.detector with lastEnd := some r.stop, quietA := 0, quietB := 0 } }).note
            .recordClose
      else w := by
  unfold closingTest Run.close
  simp only [openRecord_some hrecords hothers hopen, update_eq hrecords (fun q hq => (hothers q hq).2)]
  rfl

theorem recordActions_quiet {n : Entry} {m : Measures} {d : Demand} (hf : d.fires = false)
    (hs : d.splice = 0) {r' : DefectRecord} {t : Detector} (ha : addEnergy w.lane.run r m n.pos = (r', t))
    (hid : r'.id = r.id) :
    recordActions w n m d =
      w.setRun { w.lane.run with
        queue := { w.lane.run.queue with records := pre ++ r' :: post }, detector := t } := by
  unfold recordActions
  simp only [openRecord_some hrecords hothers hopen, ha, Demand.asks, hf, hs,
    update_eq hrecords (fun q hq => (hothers q hq).2) hid]
  rfl

theorem recordActions_asking {d : Demand} (hd : d.fires = true ∨ 1 ≤ d.splice) (n : Entry) (m : Measures) :
    recordActions w n m d = extendRecord w r n m d := by
  unfold recordActions
  simp only [openRecord_some hrecords hothers hopen, (asks_iff d).2 hd, if_true]

/-- A demand that the cap does not cut: the record is put back (R92). -/
theorem recordActions_within {n : Entry} {m : Measures} {d : Demand} (hd : d.fires = true ∨ 1 ≤ d.splice)
    {i : Int} (hi : posDiff n.pos r.start = i) (hcap : i + d.beyond ≤ 1023) {r' : DefectRecord} {t : Detector}
    (ha : addEnergy w.lane.run (extended w.lane r n.pos d) m n.pos = (r', t)) (hid : r'.id = r.id) :
    recordActions w n m d = w.setRun (w.lane.run.withRecord pre post r' t) := by
  rw [recordActions_asking hrecords hothers hopen hd]
  unfold extendRecord
  have hover : overCap r n.pos d = false := by
    rw [overCap, hi, reach_eq hd]
    exact decide_eq_false (by simp only [Config.longestRecord]; omega)
  simp only [ha, hover, putRecord_eq hrecords hothers hid]
  rfl

/-- A demand beyond the cap: the record closes as LONG 1,023 positions beyond its start, and what lies beyond
its end is taken with no record open (R94; assumption 10). -/
theorem recordActions_capped {n : Entry} {m : Measures} {d : Demand} (hd : d.fires = true ∨ 1 ≤ d.splice)
    {o : Nat} (ho : posDiff n.pos r.start = (o : Int)) (hcap : 1023 < o + d.beyond) {r' : DefectRecord}
    {t : Detector} (ha : addEnergy w.lane.run (extended w.lane r n.pos d) m n.pos = (r', t))
    (hid : r'.id = r.id)
    (hstop : r'.stop = r.start + 1023)
    (ht : t = { w.lane.run.detector with quietA := t.quietA, quietB := t.quietB }) {v : Work}
    (hv : v = w.setRun (w.lane.run.capped pre post r')) :
    recordActions w n m d =
      if 1023 < o then openAt v n false m d else openRemainder v n (r.start + 1023) d := by
  rw [recordActions_asking hrecords hothers hopen hd]
  unfold extendRecord
  have hover : overCap r n.pos d = true := by
    rw [overCap, ho, reach_eq hd]
    exact decide_eq_true (by simp only [Config.longestRecord]; omega)
  have hbeyond : (0 < posDiff n.pos (r.start + 1023)) = (1023 < o) := by
    rw [posDiff_capEnd ho, Int.sub_pos]
    exact propext Nat.cast_lt
  simp only [ha, hover, close_putRecord hrecords hothers hid t ht, hstop, hbeyond, if_true, hv]

variable {g : Nat} (hg : g = (r.stop - r.start).toNat) (hle : g ≤ 1023) {n : Entry} {d : Demand}
  (hd : d.fires = true ∨ 1 ≤ d.splice) (m : Measures)
include hg hle hd

/-- A record that starts beyond the entry is extended, and its sums stay (R92; assumption 36). -/
theorem recordActions_before {b : Nat} (hi : posDiff n.pos r.start = -(b : Int)) (hlow : 1 ≤ b)
    (hs : d.splice ≤ 48) :
    recordActions w n m d =
      w.setRun (w.lane.run.withRecord pre post (r.grown w.lane d (max g (d.beyond - b)))
        w.lane.run.detector) := by
  have hreach : d.beyond ≤ 47 := by unfold Demand.beyond; split <;> omega
  refine recordActions_within hrecords hothers hopen hd hi (by omega) ?_ rfl
  rw [extended_eq w.lane hg hle hi hd (k := max g (d.beyond - b)) (by omega)]
  exact addEnergy_before (by rw [DefectRecord.grown_start, hi]; omega)

variable {o : Nat} (hi : posDiff n.pos r.start = (o : Int))
include hi

/-- A record that starts at the entry or before it is extended, and its sums take the quiet sums and the
entry's half energies (R92, R96). -/
theorem recordActions_after (hcap : o + d.beyond ≤ 1023) :
    recordActions w n m d =
      w.setRun (w.lane.run.withRecord pre post
        ((r.grown w.lane d (max g (o + d.beyond))).summed w.lane.run.detector m)
        { w.lane.run.detector with quietA := 0, quietB := 0 }) := by
  refine recordActions_within hrecords hothers hopen hd hi (by exact_mod_cast hcap) ?_ rfl
  rw [extended_eq w.lane hg hle hi hd (k := max g (o + d.beyond)) (by omega)]
  exact addEnergy_within m hi (by rw [r.grown_length w.lane d (by omega)]; omega)

/-- The same beyond the cap (R94; assumptions 10 and 23). -/
theorem recordActions_over (hcap : 1023 < o + d.beyond) {v : Work}
    (hv : v = w.setRun (w.lane.run.capped pre post (r.atCap w.lane m d o))) :
    recordActions w n m d =
      if 1023 < o then openAt v n false m d else openRemainder v n (r.start + 1023) d := by
  obtain ⟨t, ha, ht⟩ := addEnergy_atCap (l := w.lane) m d hi
  rw [← extended_eq w.lane hg hle hi hd (k := 1023) (by omega)] at ha
  exact recordActions_capped hrecords hothers hopen hd hi hcap ha (r.atCap_id ..) (r.atCap_stop ..) ht hv

end OpenRecord

end Sys2Proof.Machine

namespace Sys2Proof.Settled

open Sys2Proof.Machine

/-- Settles O43: the closing test, the record that starts beyond the entry, and the record that starts at it
or before it, within the cap and beyond it. -/
theorem openRecordGrowsAndCloses : Obligations.OpenRecordGrowsAndCloses := by
  intro w n pre post r g hrecords hothers hopen hg hle
  refine ⟨closingTest_eq hrecords hothers hopen n.pos, fun b m d hb hlow hhigh hsplice => ?_,
    fun o m d qA qB ho hlt hqA hqB => ?_⟩
  · have hi := posDiff_of_before hb hlow hhigh
    refine ⟨fun hf hs => ?_, fun hd r' hr' => ?_⟩
    · rw [recordActions_quiet hrecords hothers hopen hf hs (addEnergy_before (by omega)) rfl, ← hrecords]
      rfl
    · rw [recordActions_before hrecords hothers hopen hg hle hd m hi hlow hsplice, hr']
      rfl
  · have hi := posDiff_of_after ho hlt
    refine ⟨fun hf hs => ?_, fun hd t r' x ht => ⟨fun hcap hr' => ?_, fun hcap hr' hx => ?_⟩⟩
    · by_cases hin : o ≤ g
      · rw [recordActions_quiet hrecords hothers hopen hf hs (addEnergy_within m hi (hg ▸ hin)) rfl]
        simp only [if_pos hin]
        rfl
      · rw [recordActions_quiet hrecords hothers hopen hf hs (addEnergy_beyond m hi (by omega)) rfl]
        simp only [if_neg hin, hqA, hqB]
        rfl
    · rw [recordActions_after hrecords hothers hopen hg hle hd m hi hcap, hr', ht]
      rfl
    · have hlong : r' = { r.atCap w.lane m d o with state := .long } := by
        rw [hr', ht, DefectRecord.atCap]
        simp only [DefectRecord.summed, DefectRecord.grown]
        split <;> rfl
      have hsplit := recordActions_over hrecords hothers hopen hg hle hd m hi hcap (v := { w with lane := x })
        (by rw [hx, hlong]; rfl)
      have hqueue : x.run.queue.records = pre ++ r' :: post := by rw [hx]
      have hlen : x.run.queue.records.length = (pre ++ r :: post).length := by rw [hqueue]; simp
      refine ⟨fun hout => ?_, fun hin hrest => ?_,
        fun hin hrest => ⟨fun hfull => ?_, fun stop hroom hstop => ?_⟩⟩
      · have hclosed : ∀ q ∈ x.run.queue.records, q.state ≠ .opened := by
          rw [hqueue]
          simp only [List.mem_append, List.mem_cons] at hothers ⊢
          rintro q (hq | rfl | hq)
          · exact (hothers q (.inl hq)).1
          · rw [hr']
            exact nofun
          · exact (hothers q (.inr hq)).1
        rw [hsplit, if_pos hout, recordActions_of_none (openRecord_eq_none hclosed)]
        rfl
      · rw [hsplit, if_neg (by omega), openRemainder_eq _ hi hin, if_neg (by omega)]
      · rw [hsplit, if_neg (by omega), openRemainder_eq _ hi hin, if_pos hrest,
          openRecord_full _ _ _ _ _ (hlen ▸ hfull)]
      · have hsame : x.run.detector.nextId = w.lane.run.detector.nextId ∧ x.params = w.lane.params := by
          rw [hx]
          exact ⟨rfl, rfl⟩
        rw [hsplit, if_neg (by omega), openRemainder_eq _ hi hin, if_pos hrest,
          openRecord_eq _ _ _ _ _ (by rw [hlen]; exact hroom), ← hstop, hsame.1, tooLong, hsame.2]
        rfl

end Sys2Proof.Settled

/-! # A record closes

The instant whose one output is the eighth entry, not firing, beyond the open record's end. Settles O44. -/

namespace Sys2Proof.Machine

/-! ### The examination of the eighth quiet entry -/

/-- An entry outside the record's span leaves its sums (R96). -/
theorem addEnergy_outside {r : DefectRecord} {n : Pos} (run : Run) (m : Measures)
    (h : inSpan r.start r.stop n = false) : ∃ t, addEnergy run r m n = (r, t) := by
  by_cases hbefore : posDiff n r.start < 0
  · exact ⟨_, addEnergy_before hbefore⟩
  · have ho := (toNat_sub_eq (not_lt.1 hbefore)).symm
    exact ⟨_, addEnergy_beyond m ho (by simpa [inSpan] using h)⟩

/-- The lane's queue holds one open record, the last, whose eighth position beyond its end lies outside its
span, and the tests of the lane's next entry are not made. -/
structure Lane.Quiet (l : Lane) (pre : List DefectRecord) (r : DefectRecord) : Prop where
  untested : l.params.get .clickOn = 0 ∨ 0 < l.run.detector.settle
  records : l.run.queue.records = pre ++ [r]
  others : ∀ q ∈ pre, q.state ≠ .opened ∧ q.id ≠ r.id
  opened : r.state = .opened
  outside : inSpan r.start r.stop (r.stop + 8) = false

/-- The record has closed as QUEUED, or as LONG with the over-length mark, and the row came about (R93). -/
structure Work.HasClosed (w : Work) (pre : List DefectRecord) (r : DefectRecord) : Prop where
  records : w.lane.run.queue.records =
    pre ++ [{ r with state := if r.overLength = true then .long else .queued }]
  lastEnd : w.lane.run.detector.lastEnd = some r.stop
  quietA : w.lane.run.detector.quietA = 0
  quietB : w.lane.run.detector.quietB = 0
  noted : .recordClose ∈ w.trace

section Quiet

variable {w : Work} {pre : List DefectRecord} {r : DefectRecord}

theorem Lane.Quiet.of_same {l l' : Lane} (h : l.Quiet pre r) (hp : l'.params = l.params)
    (hd : l'.run.detector = l.run.detector) (hq : l'.run.queue = l.run.queue) : l'.Quiet pre r where
  untested := by rw [hp, hd]; exact h.untested
  records := hq ▸ h.records
  others := h.others
  opened := h.opened
  outside := h.outside

/-- The examination of the eighth quiet entry closes the record, and leaves the ring (R93). -/
theorem examine_closes (h : w.lane.Quiet pre r) {n : Entry} (hpos : n.pos = r.stop + 8)
    (hlost : n.lost = false) (hsensor : n.sensor = false) (hsplice : n.spliceMark = false) :
    (examine w n).HasClosed pre r ∧ (examine w n).lane.run.ring = w.lane.run.ring := by
  obtain ⟨huntested, hrecords, hothers, hopen, hout⟩ := h
  have hothers' : ∀ q ∈ pre ++ [], q.state ≠ .opened ∧ q.id ≠ r.id := by simpa using hothers
  obtain ⟨m, hm⟩ : ∃ m, m = measure w.lane.run.detector n := ⟨_, rfl⟩
  have hquiet : (w.lane.causesOf m n).fires = false := by
    have himpulse : (w.lane.causesOf m n).impulse = false := by
      rw [← Bool.not_eq_true, Lane.causesOf_impulse]
      rintro ⟨hsettle, hon, -⟩
      omega
    have hasym : (w.lane.causesOf m n).asymmetry = false := by
      rw [← Bool.not_eq_true, Lane.causesOf_asymmetry]
      rintro ⟨hsettle, hon, -⟩
      omega
    simp [Causes.fires, himpulse, hasym, Lane.causesOf_sensor, hsensor]
  obtain ⟨t, ht⟩ := addEnergy_outside w.settled.lane.run m (hpos ▸ hout)
  have hactions := recordActions_quiet (w := w.settled) (post := []) hrecords hothers' hopen (n := n)
    (d := demandOf w.lane (w.lane.causesOf m n) m n) hquiet (by simp [demandOf, hsplice]) ht rfl
  rw [examine, if_neg (by simp [hlost]), examineEntry_steps w n hm rfl rfl, hactions,
    closingTest_eq (pre := pre) (post := []) rfl hothers' hopen, if_pos hpos]
  refine ⟨⟨rfl, ?_, ?_, ?_, List.mem_cons_self⟩, rfl⟩
  all_goals
    unfold Detector.examined Detector.remember
    rw [hquiet]
    simp [Detector.learn_eq]

/-! ### The entry event and the instant around it -/

/-- No entry departs while the window holds no more than LOOKAHEAD entries (R51). -/
theorem departureTest_of_few (h : (w.lane.run.ring.window.length : Int) ≤ w.lane.params.get .lookahead) :
    departureTest w = w := by
  have hmay : w.mayDepart = false := by
    rw [← Bool.not_eq_true, Work.mayDepart_iff]
    exact fun hmay => absurd hmay.1 (not_lt.2 h)
  unfold departureTest
  cases w.lane.run.ring.window.length with
  | zero => rfl
  | succ n => rw [departUpTo, hmay]; rfl

theorem entryEvent_closes (h : w.lane.Quiet pre r) (hroom : w.lane.run.ring.fill < 2048)
    (hfew : (w.lane.run.ring.window.length : Int) < w.lane.params.get .lookahead) {o : Output}
    (hpos : o.pos = r.stop + 8) (hlost : o.lost = false) (hsensor : o.sensor = false)
    (hsplice : o.spliceMark = false) : (entryEvent w o).HasClosed pre r := by
  obtain ⟨hqueue, hdetector, -⟩ := indexOutput_queue w o
  rw [entryEvent_of_room (makeRoom_of_room (by rwa [indexOutput_ring]) _)]
  dsimp only
  generalize hn : newEntry (indexOutput w o).lane.run.queue o _ _ = n
  have hparams : (placeEntry (indexOutput w o) n).lane.params = w.lane.params :=
    ((placeEntry_keeps _ n).1.params).trans (indexOutput_keeps w o).1.params
  have hplaced : (placeEntry (indexOutput w o) n).lane.Quiet pre r :=
    h.of_same hparams (by simp [placeEntry, hdetector]) (by rw [placeEntry_queue, hqueue])
  obtain ⟨hclosed, hring⟩ := examine_closes hplaced (n := n) (by rw [← hn]; exact hpos)
    (by rw [← hn]; exact hlost) (by rw [← hn]; exact hsensor) (by rw [← hn]; exact hsplice)
  rwa [departureTest_of_few]
  rw [hring, (examine_keeps _ n).1.params, hparams, placeEntry_ring, indexOutput_ring]
  simpa using hfew

/-- The outputs of an instant that hands on one. -/
theorem produceUpTo_one {p next : PrevInstant} (hin : rpIndex w.lane.run.resampler.rp = p.index)
    (hout : rpIndex (w.lane.run.resampler.rp + BitVec.ofInt 48 w.lane.run.resampler.step) ≠ p.index)
    (n : Nat) : produceUpTo p next (n + 2) w = produce p next w := by
  have hnext : rpIndex (produce p next w).lane.run.resampler.rp ≠ p.index := by
    rwa [produce_resampler]
  rw [produceUpTo, if_pos hin, produceUpTo, if_neg hnext]

/-- What an instant without edges makes of the resampler and of the lane before its outputs. -/
theorem trackStage_noEdge (k : Pos) (w : Work) {v : Work}
    (hv : v = (trackInstant k 0 w).restep w.lane.run.tracker.e) :
    v.lane.front = w.lane.front ∧ v.lane.params = w.lane.params ∧
      v.lane.run = { w.lane.run with
        tracker := v.lane.run.tracker
        resampler := { w.lane.run.resampler with perfMarks := v.lane.run.resampler.perfMarks } } := by
  have htracked := trackStage_onlyTracked k 0 w.lane.run.tracker.e w
  have hstep : v.lane.run.resampler.step = w.lane.run.resampler.step := by
    have he : (trackInstant k 0 w).lane.run.tracker.e = w.lane.run.tracker.e := by
      rw [trackInstant, trackTimeout_tracker]
      exact (Tracker.timeout_keeps ..).1
    rw [hv, restep_step, if_pos he, trackInstant_step]
  rw [← hv] at htracked
  refine ⟨htracked.front, ?_, ?_⟩
  · rw [hv, (restep_keeps _ _).params, (trackInstant_keeps k 0 w).params]
  · rw [htracked.run, hstep]

theorem Work.withSplice_false (w : Work) (index : Pos) : w.withSplice index false = w := by
  unfold Work.withSplice
  simp only [Bool.false_eq_true, false_and, if_false]
  rfl

theorem produce_closes (h : w.lane.Quiet pre r) (hsignal : w.lane.front.signal = .ok)
    (hroom : w.lane.run.ring.fill < 2048)
    (hfew : (w.lane.run.ring.window.length : Int) < w.lane.params.get .lookahead) {p next : PrevInstant}
    (hp : p.suspect = false) (hnext : next.suspect = false)
    (hmarks : w.lane.run.resampler.spliceMarks = []) (hpos : w.lane.run.resampler.nextPos = r.stop + 8) :
    (produce p next w).HasClosed pre r := by
  have hquiet : (w.setRun { w.lane.run with resampler := w.lane.run.resampler.advance }).lane.Quiet pre r :=
    h.of_same rfl rfl rfl
  exact entryEvent_closes hquiet hroom hfew hpos (by simp [outputAt, hsignal])
    (by simp [outputAt, hp, hnext]) (by simp [outputAt, hmarks])

theorem resampleInstant_closes (h : w.lane.Quiet pre r) (hsignal : w.lane.front.signal = .ok)
    (hroom : w.lane.run.ring.fill < 2048)
    (hfew : (w.lane.run.ring.window.length : Int) < w.lane.params.get .lookahead) {p next : PrevInstant}
    (hprev : w.lane.run.resampler.prev = some p) (hp : p.suspect = false) (hnext : next.suspect = false)
    (hmarks : w.lane.run.resampler.spliceMarks = []) (hin : rpIndex w.lane.run.resampler.rp = p.index)
    (hout : rpIndex (w.lane.run.resampler.rp + BitVec.ofInt 48 w.lane.run.resampler.step) ≠ p.index)
    (hpos : w.lane.run.resampler.nextPos = r.stop + 8) :
    (resampleInstant next false w).HasClosed pre r := by
  rw [resampleInstant_later hprev, Work.withSplice_false, produceUpTo_one hin hout 19]
  obtain ⟨hrecords, hend, hquietA, hquietB, hnoted⟩ :=
    produce_closes h hsignal hroom hfew hp hnext hmarks hpos
  exact ⟨hrecords, hend, hquietA, hquietB, hnoted⟩

/-- An OK instant leaves the signal as it is. -/
theorem Work.watched_ok (hsignal : w.lane.front.signal = .ok) :
    w.watched .ok = w.setFront { w.lane.front with
      nextIndex := w.lane.front.nextIndex + 1, darkRun := 0 } := by
  unfold Work.watched watchSignal FrontEnd.watch
  simp only [Work.setFront_lane, hsignal]
  rfl

/-- An OK instant without edges that hands on the one output eight positions beyond the record's end closes
the record (R93). -/
theorem completeInstant_closes (h : w.lane.Quiet pre r) (hsignal : w.lane.front.signal = .ok)
    (hroom : w.lane.run.ring.fill < 2048)
    (hfew : (w.lane.run.ring.window.length : Int) < w.lane.params.get .lookahead) {p : PrevInstant}
    (hprev : w.lane.run.resampler.prev = some p) (hp : p.suspect = false)
    (hmarks : w.lane.run.resampler.spliceMarks = []) (hin : rpIndex w.lane.run.resampler.rp = p.index)
    (hout : rpIndex (w.lane.run.resampler.rp + BitVec.ofInt 48 w.lane.run.resampler.step) ≠ p.index)
    (hpos : w.lane.run.resampler.nextPos = r.stop + 8) (x : Int) (halves : Option Halves) :
    (completeInstant x halves .ok [] w).HasClosed pre r := by
  rw [completeInstant_eq x halves .ok [] (v := w.watched .ok) rfl, Work.watched_ok hsignal]
  obtain ⟨v, hv⟩ : ∃ v, v = (trackInstant w.lane.front.nextIndex 0 (w.setFront { w.lane.front with
      nextIndex := w.lane.front.nextIndex + 1, darkRun := 0 })).restep w.lane.run.tracker.e := ⟨_, rfl⟩
  obtain ⟨hfront, hparams, hrun⟩ := trackStage_noEdge _ _ hv
  have hquiet : v.lane.Quiet pre r := h.of_same hparams (by rw [hrun]; rfl) (by rw [hrun]; rfl)
  have hclosed := resampleInstant_closes (next := ⟨x, halves, false, w.lane.front.nextIndex⟩) hquiet
    (by rw [hfront]; exact hsignal) (by rw [hrun]; exact hroom) (by rw [hrun, hparams]; exact hfew)
    (by rw [hrun]; exact hprev) hp rfl (by rw [hrun]; exact hmarks) (by rw [hrun]; exact hin)
    (by rw [hrun]; exact hout) (by rw [hrun]; exact hpos)
  rw [hv] at hclosed
  simpa using hclosed

end Quiet

end Sys2Proof.Machine

namespace Sys2Proof.Settled

open Sys2Proof.Machine

/-- Settles O44: the instant's one output closes the record, which the row names. -/
theorem recordClosesAfterEightQuiet : Obligations.RecordClosesAfterEightQuiet := by
  intro s l c p pre r hc hsignal hprev hp hmarks hin hout huntested hroom hfew hrecords hothers hopen hpos
    hspans
  obtain ⟨x, h, w, hfrom⟩ := exists_completesFrom hc
  obtain ⟨pendingA, held, g, rfl⟩ := hfrom.work
  have hquiet : (s.instantWork l pendingA held g).lane.Quiet pre r :=
    ⟨huntested, hrecords, hothers, hopen, hspans r (List.mem_append_right _ (List.mem_singleton_self r))⟩
  obtain ⟨hrecords', hend, hquietA, hquietB, hnoted⟩ :=
    completeInstant_closes hquiet hsignal hroom hfew hprev hp hmarks hin hout hpos x h
  have hlane := lane_putWork_completeInstant s (w := s.instantWork l pendingA held g) (l := l) rfl x h .ok []
  rw [← hlane] at hrecords' hend hquietA hquietB
  exact ⟨_, congrArg Host.Outcome.next (hfrom.namedEvent_eq hnoted),
    (exec_causeRow c s).trans (congrArg _ hfrom.step), hrecords', hend, hquietA, hquietB⟩

end Sys2Proof.Settled

/-! # Segments do not reach detection

Two lanes alike in their signal path are taken to lanes alike in it: by each block, and by a whole word or
generated instant. Settles O48. -/

namespace Sys2Proof.Machine

/-! ### Works alike in their signal path -/

/-- The lanes of two works have the same signal path (R105). -/
def Work.Alike (w w' : Work) : Prop := SameSignalPath w.lane w'.lane

/-- The work a with the signal path of w. -/
def Work.beside (w a : Work) : Work :=
  { a with
    lane := { a.lane with
      state := w.lane.state, params := w.lane.params, front := w.lane.front
      sprocket := w.lane.sprocket, line := w.lane.line
      predictor := w.lane.predictor, gainTable := w.lane.gainTable
      run := { a.lane.run with
        generator := w.lane.run.generator, tracker := w.lane.run.tracker
        resampler := w.lane.run.resampler, ring := w.lane.run.ring, hum := w.lane.run.hum
        detector := w.lane.run.detector, queue := w.lane.run.queue, hiss := w.lane.run.hiss } } }

/-- From alike works f makes alike works, whatever stands beside the signal path. -/
def Respects (f : Work → Work) : Prop := ∀ w a, (f w).Alike (f (w.beside a))

namespace Work.Alike

/-- Works whose signal paths are the same by definition. -/
theorem of_rfl {w w' : Work} (state : w'.lane.state = w.lane.state := by rfl)
    (params : w'.lane.params = w.lane.params := by rfl) (front : w'.lane.front = w.lane.front := by rfl)
    (sprocket : w'.lane.sprocket = w.lane.sprocket := by rfl) (line : w'.lane.line = w.lane.line := by rfl)
    (predictor : w'.lane.predictor = w.lane.predictor := by rfl)
    (gainTable : w'.lane.gainTable = w.lane.gainTable := by rfl)
    (generator : w'.lane.run.generator = w.lane.run.generator := by rfl)
    (tracker : w'.lane.run.tracker = w.lane.run.tracker := by rfl)
    (resampler : w'.lane.run.resampler = w.lane.run.resampler := by rfl)
    (ring : w'.lane.run.ring = w.lane.run.ring := by rfl) (hum : w'.lane.run.hum = w.lane.run.hum := by rfl)
    (detector : w'.lane.run.detector = w.lane.run.detector := by rfl)
    (queue : w'.lane.run.queue = w.lane.run.queue := by rfl)
    (hiss : w'.lane.run.hiss = w.lane.run.hiss := by rfl) : w.Alike w' :=
  ⟨state, params, front, sprocket, line, predictor, gainTable, generator, tracker, resampler, ring, hum,
    detector, queue, hiss⟩

theorem refl (w : Work) : w.Alike w := of_rfl

theorem symm {w w' : Work} (h : w.Alike w') : w'.Alike w := by
  obtain ⟨h1, h2, h3, h4, h5, h6, h7, h8, h9, h10, h11, h12, h13, h14, h15⟩ := h
  exact of_rfl h1.symm h2.symm h3.symm h4.symm h5.symm h6.symm h7.symm h8.symm h9.symm h10.symm h11.symm
    h12.symm h13.symm h14.symm h15.symm

theorem eq_beside {w w' : Work} (h : w.Alike w') : w' = w.beside w' := by
  obtain ⟨h1, h2, h3, h4, h5, h6, h7, h8, h9, h10, h11, h12, h13, h14, h15⟩ := h
  unfold beside
  rw [← h1, ← h2, ← h3, ← h4, ← h5, ← h6, ← h7, ← h8, ← h9, ← h10, ← h11, ← h12, ← h13, ← h14, ← h15]

theorem trans {a b c : Work} (h : a.Alike b) (k : b.Alike c) : a.Alike c := by
  rw [k.eq_beside, h.eq_beside]
  exact of_rfl

theorem beside (w a : Work) : w.Alike (w.beside a) := of_rfl

/-- What a branch makes of alike works, where its condition is about the signal path. -/
theorem ite {x x' y y' : Work} {c c' : Prop} [Decidable c] [Decidable c'] (hc : c ↔ c') (hx : x.Alike x')
    (hy : y.Alike y') : (if c then x else y).Alike (if c' then x' else y') := by
  by_cases h : c
  · rwa [if_pos h, if_pos (hc.1 h)]
  · rwa [if_neg h, if_neg (hc.not.1 h)]

/-- What a branch of any condition makes of one work. -/
theorem ite_self {w x y : Work} {c : Prop} [Decidable c] (hx : w.Alike x) (hy : w.Alike y) :
    w.Alike (if c then x else y) := by
  split <;> assumption

/-- What is done beside the signal paths of alike works leaves them alike. -/
theorem both {x x' y y' : Work} (h : x.Alike x') (hy : x.Alike y) (hy' : x'.Alike y') : y.Alike y' :=
  hy.symm.trans (h.trans hy')

section Aside

variable {w v : Work} (h : w.Alike v)
include h

theorem count (f : Report → Report) : w.Alike (v.count f) := h.trans (of_rfl (by simp) (by simp) (by simp)
  (by simp) (by simp) (by simp) (by simp) (by simp) (by simp) (by simp) (by simp) (by simp) (by simp)
  (by simp) (by simp))

theorem raise (c : Condition) : w.Alike (v.raise c) := h.trans of_rfl

theorem noteIf (b : Bool) (e : StepEvent) : w.Alike (v.noteIf b e) := by
  cases b
  exacts [h, h.trans of_rfl]

theorem setSlot (i : SlotId) (x : Slot) : w.Alike (v.setLane (v.lane.setSlot i x)) := by
  cases i <;> exact h.trans of_rfl

theorem formed (f : Former) (s : BitVec 24) :
    w.Alike (v.setRun { v.lane.run with former := f, dither := s }) := h.trans of_rfl

end Aside

end Work.Alike

namespace Respects

variable {f g : Work → Work}

theorem alike (h : Respects f) {w w' : Work} (k : w.Alike w') : (f w).Alike (f w') := by
  have := h w w'
  rwa [← k.eq_beside] at this

/-- What changes nothing of the signal path. -/
theorem of_aside (h : ∀ w : Work, w.Alike (f w)) : Respects f := fun w a =>
  (h w).symm.trans ((Work.Alike.beside w a).trans (h _))

theorem comp (hg : Respects g) (hf : Respects f) : Respects fun w => g (f w) := fun w a => hg.alike (hf w a)

end Respects

/-! ### Segments and reports -/

open Work.Alike in
theorem offerBlock_alike (w : Work) (d : Descriptor) (p : Nat) (vs : List Int) :
    w.Alike (offerBlock w d p vs) := by
  have hsent (f : Frame) : w.Alike (w.enqueue f) := of_rfl
  have hdropped (n : Nat) : w.Alike { w with streamDrops := n } := of_rfl
  unfold offerBlock
  exact ite_self ((hsent _).count _) (((hdropped _).count _).raise _)

theorem endSegment_alike (w : Work) (i : SlotId) (reason : EndReason) : w.Alike (endSegment w i reason) := by
  have hfinish {v : Work} (h : w.Alike v) :
      w.Alike (((v.setLane (v.lane.setSlot i ((v.lane.slot i).finish reason))).setRun
        { (v.setLane (v.lane.setSlot i ((v.lane.slot i).finish reason))).lane.run with
          former := ⟨0, 0, []⟩ }).raise .segmentFinished) :=
    ((h.setSlot i _).formed _ _).raise _
  unfold endSegment
  split
  · exact hfinish (.ite_self (.refl w) (offerBlock_alike w _ _ _))
  · exact .refl w

theorem endTest_alike (w : Work) (e : Entry) : w.Alike (endTest w e) := by
  have hended (i : SlotId) : w.Alike ((endSegment w i .length).note .segmentLengthEnd) :=
    (endSegment_alike w i _).noteIf true _
  unfold endTest
  split
  · exact .refl w
  · split
    · exact .ite_self (endSegment_alike w _ _)
        (.ite_self (.ite_self (hended _) ((Work.Alike.refl w).setSlot _ _)) (.refl w))
    · exact .refl w

theorem startTest_alike (w : Work) (e : Entry) : w.Alike (startTest w e) := by
  unfold startTest
  split
  · unfold startSegment
    split
    · have hstarted {v : Work} (h : w.Alike v) (o : List SlotId) :
          w.Alike (v.setLane { v.lane with loadOrder := o }) := h.trans .of_rfl
      exact ((hstarted ((Work.Alike.refl w).setSlot _ _) _).formed _ _).raise _
    · exact .refl w
  · exact .refl w

theorem judge_alike (w : Work) (e : Entry) (y : Int) : w.Alike (judge w e y) := by
  have hsample (v : Work) (d : Descriptor) : v.Alike (outputSample v d e y) := by
    unfold outputSample
    exact .ite_self (((((Work.Alike.refl v).formed _ _).count _).formed _ _).trans (offerBlock_alike _ _ _ _))
      (((Work.Alike.refl v).formed _ _).count _)
  have hout (v : Work) : v.Alike (outputStep v e y) := by
    unfold outputStep
    split
    · exact hsample v _
    · exact .refl v
  exact ((endTest_alike w e).trans (startTest_alike _ e)).trans (hout _)

/-- A retirement takes the record out of the queue, and all else it does is beside the signal path (R100). -/
theorem retire_respects (r : DefectRecord) {w w' : Work} (h : w.Alike w') (d d' : Option Descriptor) :
    (retire w d r).Alike (retire w' d' r) := by
  have hoffer (v : Work) (g : BitVec 16) : v.Alike (offerReport v g r) := by
    have hsent (f : Frame) : v.Alike (v.enqueue f) := .of_rfl
    unfold offerReport
    exact .ite_self (hsent _) (((Work.Alike.refl v).count _).raise _)
  have hremove : Respects fun v => v.setRun { v.lane.run with queue := v.lane.run.queue.remove r.id } :=
    fun _ _ => .of_rfl
  have hremoved (v : Work) (d : Option Descriptor) :
      (v.setRun { v.lane.run with queue := v.lane.run.queue.remove r.id }).Alike (retire v d r) := by
    have hcounted := (Work.Alike.refl v).count (Report.retired r)
    unfold retire
    refine hremove.alike ?_
    split
    · exact .ite_self (hcounted.trans (hoffer _ _)) hcounted
    · exact hcounted
  exact .both (hremove.alike h) (hremoved w d) (hremoved w' d')

/-! ### Departures -/

theorem retireAt_respects (e : Entry) (r : Option DefectRecord) : Respects (retireAt · e r) := fun w a => by
  cases r with
  | none => exact .beside w a
  | some r => exact .ite Iff.rfl (retire_respects r (.beside w a) _ _) (.beside w a)

theorem humDepart_respects (e : Entry) : Respects (humDepart · e) := by
  have hteach : Respects (teachTemplates · e) := fun _ _ => .of_rfl
  have hcount : Respects (countBoundaries · e) := fun _ _ =>
    .both .of_rfl (.noteIf (.refl _) _ _) (.noteIf (.refl _) _ _)
  exact hteach.comp hcount

theorem hissDepart_respects (xd : Int) : Respects (hissDepart · xd) := fun _ _ =>
  .both .of_rfl (.noteIf (.refl _) _ _) (.noteIf (.refl _) _ _)

theorem departStages_respects (e : Entry) (r : Option DefectRecord) : Respects (departStages · e r) :=
  fun w a =>
    (retireAt_respects e r).alike (.both
      ((hissDepart_respects (departingValue w.lane e r)).alike (humDepart_respects e w a))
      (judge_alike _ e _) (judge_alike _ e _))

theorem depart_respects : Respects depart := fun w a => by
  cases hw : w.lane.run.ring.window with
  | nil =>
    rw [depart_of_empty hw, depart_of_empty (w := w.beside a) hw]
    exact .beside w a
  | cons e es =>
    rw [depart_eq hw, depart_eq (w := w.beside a) hw]
    exact (departStages_respects _ _).alike .of_rfl

theorem departureTest_respects : Respects departureTest := by
  have hupTo (n : Nat) : Respects (departUpTo n) := by
    induction n with
    | zero => exact Work.Alike.beside
    | succ n ih => exact fun w a => .ite Iff.rfl (ih.alike (depart_respects w a)) (.beside w a)
  exact fun w a => hupTo w.lane.run.ring.window.length w a

/-! ### The records -/

theorem dropRecord_respects : Respects dropRecord := by
  have hnotice : Respects fun w => if w.lane.run.queue.fullNotice then w
      else (w.raise .queueFull).setRun
        { w.lane.run with queue := { w.lane.run.queue with fullNotice := true } } :=
    fun w a => .ite Iff.rfl (.beside w a) .of_rfl
  exact hnotice.comp (.of_aside fun w => .count (.refl w) _)

theorem openRecord_respects (start stop : Pos) (c : Causes) (p : Nat) (t : Nat × Nat) :
    Respects (openRecord · start stop c p t) := fun w a =>
  .ite Iff.rfl (dropRecord_respects w a) .of_rfl

theorem openAt_respects (n : Entry) (covered : Bool) (m : Measures) (d : Demand) :
    Respects (openAt · n covered m d) := fun w a =>
  .ite Iff.rfl (.beside w a) (openRecord_respects _ _ _ _ _ w a)

theorem openRemainder_respects (n : Entry) (stop : Pos) (d : Demand) :
    Respects (openRemainder · n stop d) := fun w a =>
  .ite Iff.rfl (openRecord_respects _ _ _ _ _ w a) (.beside w a)

theorem extendRecord_respects (r : DefectRecord) (n : Entry) (m : Measures) (d : Demand) :
    Respects (extendRecord · r n m d) := fun w a =>
  .ite Iff.rfl
    (.ite Iff.rfl ((openAt_respects n false m d).alike .of_rfl)
      ((openRemainder_respects n _ d).alike .of_rfl))
    .of_rfl

theorem recordActions_respects (n : Entry) (m : Measures) (d : Demand) :
    Respects (recordActions · n m d) := fun w a => by
  change (recordActions w n m d).Alike (recordActions (w.beside a) n m d)
  cases hr : w.lane.run.queue.openRecord with
  | none =>
    rw [recordActions_of_none hr, recordActions_of_none (w := w.beside a) hr]
    exact openAt_respects _ _ _ _ w a
  | some r =>
    have hr' : (w.beside a).lane.run.queue.openRecord = some r := hr
    simp only [recordActions, hr, hr']
    exact .ite Iff.rfl (extendRecord_respects r n m d w a) .of_rfl

theorem closingTest_respects (n : Pos) : Respects (closingTest · n) := fun w a => by
  have hr' : (w.beside a).lane.run.queue.openRecord = w.lane.run.queue.openRecord := rfl
  simp only [closingTest, hr']
  cases w.lane.run.queue.openRecord with
  | none => exact .beside w a
  | some r => exact .ite Iff.rfl .of_rfl (.beside w a)

theorem examine_respects (n : Entry) : Respects (examine · n) := by
  have hentry : Respects (examineEntry · n) := fun w a => by
    have hactions := (closingTest_respects n.pos).alike ((recordActions_respects n
      (measure w.lane.run.detector n) (demandOf w.lane (w.lane.causesOf (measure w.lane.run.detector n) n)
        (measure w.lane.run.detector n) n)).alike (w := w.settled) (w' := (w.beside a).settled) .of_rfl)
    have hlearn (fires : Bool) (m : Measures) : Respects fun v =>
        v.setRun { v.lane.run with detector := v.lane.run.detector.examined fires m n } := fun _ _ => .of_rfl
    change (examineEntry w n).Alike (examineEntry (w.beside a) n)
    rw [examineEntry_steps w n rfl rfl rfl, examineEntry_steps (w.beside a) n rfl rfl rfl]
    exact (hlearn _ _).alike hactions
  exact fun w a => .ite Iff.rfl (.beside w a) (hentry w a)

/-! ### The entry event -/

theorem makeRoom_respects (n : Nat) : Respects (makeRoom n) := by
  have habandon (r : DefectRecord) : Respects fun w => (w.setRun (w.lane.run.abandon r)).raise .overrun := by
    unfold Run.abandon
    split <;> exact fun _ _ => .of_rfl
  have hfreed : Respects Work.freed := fun w a => by
    have hr' : (w.beside a).lane.run.holder = w.lane.run.holder := rfl
    simp only [Work.freed, hr']
    cases w.lane.run.holder with
    | none => exact .beside w a
    | some r => exact habandon r w a
  have honce : Respects makeRoomOnce := fun w a => by
    rw [makeRoomOnce_eq, makeRoomOnce_eq]
    exact depart_respects.comp hfreed w a
  induction n with
  | zero => exact Work.Alike.beside
  | succ n ih => exact fun w a => .ite Iff.rfl (.beside w a) (ih.alike (honce w a))

theorem placeEntry_respects (e : Entry) : Respects (placeEntry · e) := fun _ _ =>
  .both .of_rfl (.count (.refl _) _) (.count (.refl _) _)

theorem entryEvent_respects (o : Output) : Respects (entryEvent · o) := by
  have hindex : Respects (indexOutput · o) := fun _ _ => .ite Iff.rfl .of_rfl .of_rfl
  have hroom : Respects fun w => makeRoom w.lane.run.ring.window.length w := fun w a =>
    makeRoom_respects w.lane.run.ring.window.length w a
  have henter (h : HumIndex) (v : Int) : Respects fun w =>
      departureTest (examine (placeEntry w (newEntry w.lane.run.queue o h v))
        (newEntry w.lane.run.queue o h v)) :=
    fun w a => departureTest_respects.alike ((examine_respects _).alike (placeEntry_respects _ w a))
  exact fun w a => (henter (indicesOf w.lane o) (workingValue w.lane o (indicesOf w.lane o))).alike
    (hroom.alike (hindex w a))

/-! ### An instant -/

theorem resampleInstant_respects (next : PrevInstant) (splice : Bool) :
    Respects (resampleInstant next splice) := by
  have hsplice : Respects (Work.withSplice · next.index splice) := fun _ _ => .of_rfl
  have hprev : Respects (Work.withPrev · next) := fun _ _ => .of_rfl
  have hproduce (p : PrevInstant) : Respects (produce p next) := fun w a =>
    (entryEvent_respects (outputAt w.lane p next)).alike .of_rfl
  have hupTo (p : PrevInstant) (n : Nat) : Respects (produceUpTo p next n) := by
    induction n with
    | zero => exact Work.Alike.beside
    | succ n ih => exact fun w a => .ite Iff.rfl (ih.alike (hproduce p w a)) (.beside w a)
  intro w a
  cases hp : w.lane.run.resampler.prev with
  | none =>
    rw [resampleInstant_first hp, resampleInstant_first (w := w.beside a) hp]
    exact hprev.comp hsplice w a
  | some p =>
    rw [resampleInstant_later hp, resampleInstant_later (w := w.beside a) hp]
    exact hprev.alike ((hupTo p 21).alike (hsplice w a))

theorem watchSignal_respects (q : Quality) : Respects (watchSignal q) := by
  have hlost : Respects onSignalLost := fun w a => by
    cases hr : w.lane.run.queue.openRecord with
    | none =>
      rw [onSignalLost_none hr, onSignalLost_none (w := w.beside a) hr]
      exact .of_rfl
    | some r =>
      rw [onSignalLost_some hr, onSignalLost_some (w := w.beside a) hr]
      exact departureTest_respects.alike .of_rfl
  have hrecovered : Respects onSignalRecovered := fun _ _ => .of_rfl
  intro w a
  have hset : (w.setFront (w.lane.front.watch q)).Alike
      ((w.beside a).setFront ((w.beside a).lane.front.watch q)) := .of_rfl
  have hsignal : (w.beside a).lane.front = w.lane.front := rfl
  simp only [watchSignal, Work.setFront_lane, hsignal]
  cases w.lane.front.signal <;> cases (w.lane.front.watch q).signal
  · exact hset
  · exact hlost.alike hset
  · exact hrecovered.alike hset
  · exact hset

theorem putTracker_respects (t : Tracker) : Respects (Work.putTracker · t) := by
  have hput (w : Work) : (w.setRun { w.lane.run with tracker := t }).Alike (w.putTracker t) := by
    unfold Work.putTracker
    exact .ite_self (.raise (.refl _) _) (.refl _)
  exact fun w a => .both .of_rfl (hput w) (hput _)

theorem trackInstant_respects (k : Pos) (n : Nat) : Respects (trackInstant k n) := by
  have hcounted (f f' : Report → Report) {w w' : Work} (h : w.Alike w') :
      (w.count f).Alike (w'.count f') := .both h (.count (.refl _) _) (.count (.refl _) _)
  have hnoted (b b' : Bool) (e : StepEvent) {w w' : Work} (h : w.Alike w') :
      (w.noteIf b e).Alike (w'.noteIf b' e) := .both h (.noteIf (.refl _) _ _) (.noteIf (.refl _) _ _)
  have hmark (spurious : Prop) [Decidable spurious] : Respects fun w => w.setRun { w.lane.run with
      resampler := { w.lane.run.resampler with
        perfMarks := if spurious ∨ k ∈ w.lane.run.resampler.perfMarks then w.lane.run.resampler.perfMarks
          else w.lane.run.resampler.perfMarks ++ [k] } } := fun _ _ => .of_rfl
  have hedge : Respects (trackEdge k) := fun w a =>
    hnoted _ _ _ (hnoted _ _ _ ((hmark _).alike ((putTracker_respects _).alike
      (hcounted _ _ (.beside w a)))))
  have hedges (n : Nat) : Respects (trackEdges k n) := by
    induction n with
    | zero => exact Work.Alike.beside
    | succ n ih => exact ih.comp hedge
  have htimeout : Respects (trackTimeout k) := fun w a =>
    hnoted _ _ _ ((putTracker_respects _).alike (hcounted _ _ (.beside w a)))
  exact htimeout.comp (hedges n)

theorem restep_respects (e : Int) : Respects (Work.restep · e) := fun w a =>
  .ite Iff.rfl (.beside w a) .of_rfl

theorem completeInstant_respects (x : Int) (h : Option Halves) (q : Quality) (es : List EdgeKind) :
    Respects (completeInstant x h q es) := by
  have hnext : Respects fun w => w.setFront { w.lane.front with nextIndex := w.lane.front.nextIndex + 1 } :=
    fun _ _ => .of_rfl
  have hwatched : Respects (Work.watched · q) := (watchSignal_respects q).comp hnext
  have hstage (k : Pos) : Respects fun v => resampleInstant
      ⟨x, h, decide (q ≠ .ok ∧ v.lane.front.signal = .ok), k⟩
      (decide (.splice ∈ es ∧ v.lane.front.signal = .ok))
      ((trackInstant k (es.count .perf) v).restep v.lane.run.tracker.e) := fun v a =>
    (resampleInstant_respects _ _).alike ((restep_respects _).alike (trackInstant_respects _ _ v a))
  intro w a
  rw [completeInstant_eq x h q es (v := w.watched q) rfl,
    completeInstant_eq x h q es (v := (w.beside a).watched q) rfl]
  exact (hstage w.lane.front.nextIndex).alike (hwatched w a)

theorem completeSensor_respects (x : Int) (h : Option Halves) (q : Quality) :
    Respects (completeSensor x h q) := fun w a =>
  (completeInstant_respects x h q w.lane.front.heldEdges).alike .of_rfl

/-! ### Words and generated instants -/

theorem takeWord_respects (f : SensorFields) : Respects (takeWord f) := by
  have herror : Respects pairingError := .of_aside fun w => .count (.refl w) _
  have hdual : Respects (takeDual f) := fun w a => by
    have hpending : (w.beside a).lane.front.pendingA = w.lane.front.pendingA := rfl
    simp only [takeDual, hpending]
    cases f.half <;> cases w.lane.front.pendingA
    · exact .of_rfl
    · exact herror.alike .of_rfl
    · exact herror w a
    · exact (completeSensor_respects _ _ _).alike .of_rfl
  exact fun w a => .ite Iff.rfl (.ite Iff.rfl (hdual w a) (completeSensor_respects _ _ _ w a)) (.beside w a)

theorem generateInstant_respects : Respects generateInstant := fun w a =>
  .ite Iff.rfl ((completeInstant_respects _ _ _ _).alike .of_rfl) (.beside w a)

/-- An event of a lane that respects the signal path takes lanes alike in it to lanes alike in it. -/
theorem laneEvent_respects {f : Work → Work} (h : Respects f) {s s' : State} {l : LaneId}
    (hid : ∀ s : State, (f (s.work l)).id = l) (hheld : s.resetHeld = s'.resetHeld)
    (hl : SameSignalPath s.lanes[l] s'.lanes[l]) :
    SameSignalPath (laneEvent l f s).lanes[l] (laneEvent l f s').lanes[l] := by
  cases hs : s.resetHeld with
  | true => rwa [laneEvent_low hs, laneEvent_low (hheld ▸ hs)]
  | false =>
    rw [laneEvent_high hs, laneEvent_high (hheld ▸ hs), State.lane_putWork s (hid s),
      State.lane_putWork s' (hid s')]
    exact h.alike (w := s.work l) (w' := s'.work l) hl

end Sys2Proof.Machine

namespace Sys2Proof.Settled

open Sys2Proof.Machine

/-- Settles O48: a word and a generated instant are blocks that respect the signal path. -/
theorem segmentsDoNotReachDetection : Obligations.SegmentsDoNotReachDetection := by
  rintro s s' t t' i l hi hheld hl ht ht'
  rcases hi with rfl | ⟨w, rfl, rfl⟩
  · obtain rfl := Host.Outcome.next.inj ht
    obtain rfl := Host.Outcome.next.inj ht'
    exact laneEvent_respects generateInstant_respects (fun s => (generateInstant_keeps (s.work l)).id)
      hheld hl
  · obtain rfl := Host.Outcome.next.inj ht
    obtain rfl := Host.Outcome.next.inj ht'
    exact laneEvent_respects (takeWord_respects _) (fun s => (takeWord_keeps _ (s.work _)).id) hheld hl

end Sys2Proof.Settled

/-! # The completion of a job

The two banks, the record of a job, and what a completion makes of them. Settles O55. -/

namespace Sys2Proof.Machine

/-! ### The two banks -/

theorem Engine.setBank_same (e : Engine) (b : BankId) (x : Bank) :
    (e.setBank b x).banks[b] = x := by
  simp [setBank]

theorem Engine.setBank_other (e : Engine) {b c : BankId} (x : Bank) (h : c ≠ b) :
    (e.setBank b x).banks[c] = e.banks[c] := by
  have : b.val ≠ c.val := fun hbc => h (Fin.ext hbc.symm)
  simp [setBank, this]

theorem one_sub_bank_ne (b : BankId) : 1 - b ≠ b := by
  revert b
  decide

theorem Engine.runningBank_eq {e : Engine} {b : BankId} {j : Job} (hb : e.banks[b] = .running j)
    (ho : (e.banks[1 - b]).isRunning = false) : e.runningBank = some (b, j) := by
  unfold runningBank
  match b with
  | 0 => simp only [show e.banks[0] = .running j from hb]
  | 1 =>
    have hb : e.banks[1] = .running j := hb
    have ho : (e.banks[0]).isRunning = false := ho
    rw [hb]
    cases h0 : e.banks[0] with
    | running _ => rw [h0] at ho; cases ho
    | empty | loaded _ | finished _ _ => rfl

theorem Engine.runningBank_eq_none {e : Engine} (h0 : (e.banks[0]).isRunning = false)
    (h1 : (e.banks[1]).isRunning = false) : e.runningBank = none := by
  unfold runningBank
  split
  case h_1 h => rw [h] at h0; cases h0
  case h_2 h _ => rw [h] at h1; cases h1
  case h_3 => rfl

theorem Engine.bank_of_runningBank {e : Engine} {b : BankId} {j : Job}
    (h : e.runningBank = some (b, j)) : e.banks[b] = .running j := by
  unfold runningBank at h
  split at h
  case h_1 h0 => cases h; exact h0
  case h_2 h1 _ => cases h; exact h1
  case h_3 => cases h

/-! ### The record of a job -/

theorem DefectQueue.find_eq_some {q : DefectQueue} {id : RecordId} {r : DefectRecord}
    (h : q.find id = some r) : r ∈ q.records ∧ r.id = id :=
  ⟨List.mem_of_find?_eq_some h, by simpa using List.find?_some h⟩

/-- The only record of an id is found by it. -/
theorem DefectQueue.find_of_unique {q : DefectQueue} {r : DefectRecord} (hr : r ∈ q.records)
    (hu : ∀ a ∈ q.records, a.id = r.id → a = r) : q.find r.id = some r := by
  cases h : q.find r.id with
  | none => exact absurd (List.find?_eq_none.1 h r hr) (by simp)
  | some a =>
    obtain ⟨ha, hid⟩ := find_eq_some h
    rw [hu a ha hid]

theorem unique_of_split {rs pre post : List DefectRecord} {r : DefectRecord} (h : rs = pre ++ r :: post)
    (hu : ∀ x ∈ pre ++ post, x.id ≠ r.id) : r ∈ rs ∧ ∀ a ∈ rs, a.id = r.id → a = r := by
  subst h
  refine ⟨by simp, fun a ha hid => ?_⟩
  by_contra hne
  exact hu a (by simpa [hne] using ha) hid

theorem Lane.recordOfJob_eq_some_iff {l : Lane} {j : Job} {b : BankId} {r : DefectRecord} :
    l.recordOfJob j b = some r ↔
      l.runNumber = j.runNumber ∧ l.run.queue.find j.recordId = some r ∧ r.holding = some b := by
  unfold recordOfJob
  split
  case isTrue h => simp [Option.filter_eq_some_iff, h]
  case isFalse h => simp [h]

/-! ### The start of the LOADED job -/

theorem startRepair_started {s : State} {j : Job} {b : BankId} {r : DefectRecord}
    (hr : (s.lanes[j.lane]).recordOfJob j b = some r) (hs : r.state = .loaded) :
    startRepair s j b =
      s.setLane j.lane { s.lanes[j.lane] with run := { (s.lanes[j.lane]).run with
        queue := (s.lanes[j.lane]).run.queue.update { r with state := .inRepair } } } := by
  simp only [startRepair, hr, hs, if_true]

theorem startRepair_without {s : State} {j : Job} {b : BankId}
    (h : ∀ r, (s.lanes[j.lane]).recordOfJob j b = some r → r.state ≠ .loaded) :
    startRepair s j b = s := by
  unfold startRepair
  dsimp only
  split
  case h_1 r hr => exact if_neg (h r hr)
  case h_2 => rfl

theorem startRepair_setEngine (s : State) (e : Engine) (j : Job) (b : BankId) :
    startRepair (s.setEngine e) j b = (startRepair s j b).setEngine e := by
  simp only [startRepair, State.setEngine_lanes]
  cases (s.lanes[j.lane]).recordOfJob j b with
  | none => rfl
  | some r =>
    dsimp only
    split <;> rfl

/-! ### Completion -/

/-- The engine in which bank b has finished its job, the last of the banks that have (R115, R117). -/
def Engine.finish (e : Engine) (b : BankId) (j : Job) : Engine :=
  { e.setBank b (.finished j j.results) with finishOrder := e.finishOrder ++ [b] }

theorem completeJob_idle {s : State} (h : s.engine.runningBank = none) : completeJob s = s := by
  simp only [completeJob, h]

section Completes

variable {s : State} {b : BankId} {j : Job} (hr : s.engine.runningBank = some (b, j))
include hr

/-- A completion behind which no job waits (R115). -/
theorem completeJob_alone (ho : (s.engine.banks[1 - b]).isLoaded = false) :
    completeJob s = s.setEngine (s.engine.finish b j) := by
  simp only [completeJob, hr, otherBank_eq]
  split
  case h_1 h => rw [h] at ho; cases ho
  case h_2 => rfl

/-- A completion that starts the LOADED job of the other bank (R115). -/
theorem completeJob_starts {j' : Job} (ho : s.engine.banks[1 - b] = .loaded j') :
    completeJob s =
      (startRepair s j' (1 - b)).setEngine ((s.engine.finish b j).setBank (1 - b) (.running j')) := by
  rw [← startRepair_setEngine]
  simp only [completeJob, hr, otherBank_eq, ho]
  rfl

end Completes

theorem exec_jobCompletion (s : State) :
    exec .jobCompletion s = .next (if s.resetHeld then s else completeJob s) := rfl

end Sys2Proof.Machine

namespace Sys2Proof.Settled

open Sys2Proof.Machine

/-- Settles O55, by what stands in the other bank, and whether the lane still has the record of its job. -/
theorem jobCompletionFinishesBank : Obligations.JobCompletionFinishesBank := by
  refine ⟨fun s h0 h1 => ?_, fun s b j hreset hb ho => ?_⟩
  · rw [exec_jobCompletion, completeJob_idle (Engine.runningBank_eq_none h0 h1), ite_self]
  · have hr := Engine.runningBank_eq hb ho
    rw [exec_jobCompletion, if_neg (by simp [hreset])]
    refine ⟨fun hl => by rw [completeJob_alone hr hl]; rfl, ?_⟩
    rintro j' l hl rfl
    rw [completeJob_starts hr hl]
    refine ⟨fun pre post r hsplit hid hu hn hhold hs => ?_, fun hnone => ?_⟩
    · obtain ⟨hmem, hunique⟩ := unique_of_split hsplit hu
      have hfound := DefectQueue.find_of_unique hmem hunique
      rw [hid] at hfound
      rw [startRepair_started (Lane.recordOfJob_eq_some_iff.2 ⟨hn, hfound, hhold⟩) hs, update_eq hsplit hu]
      · rfl
      · rfl
    · rw [startRepair_without fun r hr => ?_]
      · rfl
      · obtain ⟨hn, hfound, -⟩ := Lane.recordOfJob_eq_some_iff.1 hr
        obtain ⟨hmem, hid⟩ := DefectQueue.find_eq_some hfound
        exact hnone.elim (absurd hn) fun h => h r hmem hid

end Sys2Proof.Settled

/-! # A write-back

What a write-back does to its bank and its lane, and that a departure leaves the front end. Settles O56. -/

namespace Sys2Proof.Machine

/-! ### Departures leave the front end -/

theorem retireAt_front (w : Work) (e : Entry) (r : Option DefectRecord) :
    (retireAt w e r).lane.front = w.lane.front := by
  have hoffer (v : Work) (g : BitVec 16) (q : DefectRecord) :
      (offerReport v g q).lane.front = v.lane.front := by
    unfold offerReport
    dsimp only
    split <;> simp
  unfold retireAt retire
  split
  · split
    · dsimp only
      split
      · split <;> simp [hoffer]
      · simp
    · rfl
  · rfl

theorem depart_front (w : Work) : (depart w).lane.front = w.lane.front := by
  cases hw : w.lane.run.ring.window with
  | nil => rw [depart_of_empty hw]
  | cons e es =>
    rw [depart_eq hw, departStages_eq _ _ _ rfl, retireAt_front]
    obtain ⟨-, -, hfront, -⟩ := judge_alike
      (hissDepart (humDepart (w.passed e es) { e with departed := true })
        (departingValue (w.passed e es).lane { e with departed := true } (w.lane.run.recordOf e)))
      { e with departed := true } _
    exact hfront.trans (by simp [hissDepart, humDepart, teachTemplates, countBoundaries, Work.passed])

theorem departureTest_front (w : Work) : (departureTest w).lane.front = w.lane.front :=
  departureTest_induction (P := fun v => v.lane.front = w.lane.front) rfl fun v hv _ =>
    (depart_front v).trans hv

/-! ### The match of a job -/

theorem Lane.matching_eq_some_iff {l : Lane} {j : Job} {b : BankId} {r : DefectRecord} :
    l.matching j b = some r ↔
      l.runNumber = j.runNumber ∧ l.run.queue.find j.recordId = some r ∧ r.holding = some b ∧
        r.state = .inRepair := by
  simp [matching, Option.filter_eq_some_iff, recordOfJob_eq_some_iff, and_assoc]

/-- A run of another number, or a record that is not IN_REPAIR under this bank, matches nothing (R117). -/
theorem Lane.matching_eq_none {l : Lane} {j : Job} {b : BankId}
    (h : l.runNumber ≠ j.runNumber ∨ ∀ r ∈ l.run.queue.records, r.id = j.recordId →
      r.state ≠ .inRepair ∨ r.holding ≠ some b) : l.matching j b = none := by
  rw [Option.eq_none_iff_forall_ne_some]
  intro r hr
  obtain ⟨hn, hfound, hhold, hs⟩ := matching_eq_some_iff.1 hr
  obtain ⟨hmem, hid⟩ := DefectQueue.find_eq_some hfound
  rcases h with h | h
  · exact h hn
  · exact (h r hmem hid).elim (absurd hs) (absurd hhold)

theorem writeBackLane_unmatched {b : BankId} {j : Job} {w : Work} (h : w.lane.matching j b = none)
    (rs : List Int) : writeBackLane b j rs w = w := by
  simp only [writeBackLane, h]

theorem writeBackLane_matched {b : BankId} {j : Job} {w : Work} {r : DefectRecord}
    (h : w.lane.matching j b = some r) (rs : List Int) :
    writeBackLane b j rs w = departureTest (w.setRun (w.lane.run.written r rs)) := by
  simp only [writeBackLane, h, writeResults_eq]

/-- The run with the results written, entry by entry and record by record (R118). -/
theorem Run.written_eq {run : Run} {pre post : List DefectRecord} {r : DefectRecord}
    (h : run.queue.records = pre ++ r :: post) (hu : ∀ q ∈ pre ++ post, q.id ≠ r.id) (rs : List Int) :
    run.written r rs =
      { run with
        ring := { run.ring with
          window := run.ring.window.map fun e : Entry =>
            if (e.pos - r.start).toNat ≤ (r.stop - r.start).toNat then
              { e with w := rs.getD (e.pos - r.start).toNat 0, repaired := true } else e }
        queue := { run.queue with
          records := pre ++ { r with state := .repaired, holding := none } :: post } } := by
  have hrepair : Entry.repair r rs = fun e : Entry =>
      if (e.pos - r.start).toNat ≤ (r.stop - r.start).toNat then
        { e with w := rs.getD (e.pos - r.start).toNat 0, repaired := true } else e :=
    funext fun e => by simp only [Entry.repair, inSpan, decide_eq_true_eq]
  rw [written, hrepair, update_eq (r' := { r with state := .repaired, holding := none }) h hu rfl]

/-! ### The step -/

theorem exec_writeBack (s : State) :
    exec .writeBack s = .next (if s.resetHeld then s else writeBackStep s) := rfl

theorem Engine.bankToWrite_eq {e : Engine} {b : BankId} {order : List BankId} {j : Job} {rs : List Int}
    (ho : e.finishOrder = b :: order) (hb : e.banks[b] = .finished j rs) :
    e.bankToWrite = some (b, j, rs) := by
  simp only [bankToWrite, ho, hb]

theorem Engine.bankToWrite_eq_none {e : Engine} (h : e.finishOrder = []) : e.bankToWrite = none := by
  simp only [bankToWrite, h]

theorem writeBackStep_idle {s : State} (h : s.engine.bankToWrite = none) : writeBackStep s = s := by
  simp only [writeBackStep, writeBackWork, h]

theorem writeBackStep_eq {s : State} {b : BankId} {j : Job} {rs : List Int}
    (h : s.engine.bankToWrite = some (b, j, rs)) :
    writeBackStep s =
      (s.putWork (writeBackLane b j rs (s.work j.lane))).setEngine (s.engine.emptied b) := by
  simp only [writeBackStep, writeBackWork, h]

end Sys2Proof.Machine

namespace Sys2Proof.Settled

open Sys2Proof.Machine

/-- Settles O56, by whether the job matches: the bank is emptied, and a matching job's results are written
before the departure test. -/
theorem writeBackMatchesOrDiscards : Obligations.WriteBackMatchesOrDiscards := by
  refine ⟨fun s h => ?_, ?_⟩
  · rw [exec_writeBack, writeBackStep_idle (Engine.bankToWrite_eq_none h), ite_self]
  · rintro s b order j rs l e' hreset horder hbank rfl he
    have hemptied : s.engine.emptied b = e' := by
      rw [he, Engine.emptied, horder]
      rfl
    rw [exec_writeBack, if_neg (by simp [hreset]), writeBackStep_eq (Engine.bankToWrite_eq horder hbank),
      hemptied]
    refine ⟨fun hnone => ?_, fun pre post r x hn hsplit hid hu hs hhold hx => ?_⟩
    · rw [writeBackLane_unmatched (Lane.matching_eq_none hnone), State.putWork_work]
      rfl
    · obtain ⟨hmem, hunique⟩ := unique_of_split hsplit hu
      have hfound := DefectQueue.find_of_unique hmem hunique
      rw [hid] at hfound
      have hwritten : (s.work j.lane).setRun ((s.work j.lane).lane.run.written r rs) =
          { s.work j.lane with lane := x } := by
        rw [hx, State.work_lane, Run.written_eq hsplit hu]
        rfl
      rw [writeBackLane_matched (w := s.work j.lane)
        (Lane.matching_eq_some_iff.2 ⟨hn, hfound, hhold, hs⟩), hwritten]
      have hkeeps := (departureTest_keeps { s.work j.lane with lane := x }).1
      have hconfig : SameConfiguration s.lanes[j.lane] x := by
        rw [hx]
        exact .refl _
      refine ⟨rfl, ?_, hconfig.trans hkeeps.config, ?_, fun hfew => ?_⟩
      · exact onlyLane_putWork { s with engine := e' } hkeeps.id
      · rw [departureTest_front, hx]
      · rw [departureTest_of_few (by simpa [hx] using hfew)]
        rfl

end Sys2Proof.Settled

/-! # The repair arithmetic

A run of predictions is told from the values behind it, newest first; the forward and the backward
predictions are its two readings. Settles O57. -/

namespace Sys2Proof.Machine

/-! ### Predictions -/

/-- The prediction from the eight values v 0 to v 7, nearest first (R120, R121). -/
def predictFrom (a : List Int) (v : Nat → Int) : Int :=
  max (-8388608) (min 8388607
    ((((List.range 8).map fun i : Nat => a.getD i 0 * v i).sum + 2048) / 4096))

theorem predictFrom_congr {a : List Int} {v v' : Nat → Int} (h : ∀ i < 8, v i = v' i) :
    predictFrom a v = predictFrom a v' := by
  have hproducts : ((List.range 8).map fun i : Nat => a.getD i 0 * v i) =
      (List.range 8).map fun i : Nat => a.getD i 0 * v' i :=
    List.map_congr_left fun i hi => by rw [h i (List.mem_range.1 hi)]
  rw [predictFrom, hproducts]
  rfl

theorem predict_eq {a c : List Int} (ha : a.length = 8) (hc : c.length = 8) :
    predict a c = predictFrom a (c.getD · 0) := by
  have hproducts : List.zipWith (· * ·) a c = (List.range 8).map fun i => a.getD i 0 * c.getD i 0 := by
    refine List.ext_getElem (by simp [ha, hc]) fun i h1 h2 => ?_
    have hi : i < 8 := by simpa using h2
    simp [List.getD_eq_getElem?_getD, ha, hc, hi]
  rw [predict, hproducts]
  rfl

@[simp] theorem predictRun_length (a : List Int) (n : Nat) (c : List Int) :
    (predictRun a n c).length = n := by
  induction n generalizing c with
  | zero => rfl
  | succ n ih => simp [predictRun, ih]

/-- What a prediction reads of the values behind it does not reach the oldest of nine. -/
theorem take_append_cons_take (y : List Int) (v : Int) (c : List Int) :
    (y ++ v :: c.take 7).take 8 = (y ++ v :: c).take 8 := by
  rw [List.take_append, List.take_append]
  congr 1
  cases h : 8 - y.length with
  | zero => rfl
  | succ m => rw [List.take_succ_cons, List.take_succ_cons, List.take_take, min_eq_left (by omega)]

/-- Of a run of predictions in front of its context, newest first, each is predicted from the eight values
behind it (R120, R121). -/
theorem predictRun_getElem? {a c : List Int} (hc : c.length = 8) {n k : Nat} (hk : k < n) :
    ((predictRun a n c).reverse ++ c)[k]? =
      some (predict a ((((predictRun a n c).reverse ++ c).drop (k + 1)).take 8)) := by
  induction n generalizing c with
  | zero => omega
  | succ n ih =>
    obtain ⟨v, hv⟩ : ∃ v, v = predict a c := ⟨_, rfl⟩
    obtain ⟨p, hp⟩ : ∃ p, p = (predictRun a n (v :: c.take 7)).reverse := ⟨_, rfl⟩
    have hlength : p.length = n := by simp [hp]
    have hsplit : (predictRun a (n + 1) c).reverse ++ c = p ++ v :: c := by
      simp only [predictRun, List.reverse_cons, List.append_assoc, List.cons_append, List.nil_append, hp, hv,
        Config.contextLength]
    rw [hsplit]
    rcases Nat.lt_or_eq_of_le (Nat.lt_succ_iff.1 hk) with hlt | rfl
    · have hprev := ih (c := v :: c.take 7) (by simp [hc]) hlt
      rw [← hp, List.getElem?_append_left (by omega), List.drop_append_of_le_length (by omega),
        take_append_cons_take] at hprev
      rw [List.getElem?_append_left (by omega), List.drop_append_of_le_length (by omega)]
      exact hprev
    · have hlast : (p ++ v :: c).drop (k + 1) = c := by
        rw [List.append_cons, List.drop_left' (by simp [hlength])]
      rw [List.getElem?_append_right (by omega), hlength, Nat.sub_self, hlast, List.take_of_length_le hc.le, hv]
      rfl

/-- The same, with the eight values told by their indices. -/
theorem predictRun_eq {a c : List Int} (ha : a.length = 8) (hc : c.length = 8) {n k : Nat} (hk : k < n) :
    ((predictRun a n c).reverse ++ c)[k]? =
      some (predictFrom a fun i => ((predictRun a n c).reverse ++ c).getD (k + 1 + i) 0) := by
  have hcontext : ((((predictRun a n c).reverse ++ c).drop (k + 1)).take 8).length = 8 := by
    simp [hc]
    omega
  rw [predictRun_getElem? hc hk, predict_eq ha hcontext]
  refine congrArg some (predictFrom_congr fun i hi => ?_)
  simp only [List.getD_eq_getElem?_getD, List.getElem?_take, if_pos hi, List.getElem?_drop]

/-! ### The two directions -/

theorem forward_length (a left : List Int) (g : Nat) : (forward a left g).length = g := predictRun_length ..

theorem backward_length (a right : List Int) (g : Nat) : (backward a right g).length = g := by
  simp [backward]

/-- Each backward prediction from the eight values above it (R121). -/
theorem backward_eq {a right : List Int} (ha : a.length = 8) (hr : right.length = 8) {g k : Nat} (hk : k < g) :
    (backward a right g ++ right)[k]? =
      some (predictFrom a fun i => (backward a right g ++ right).getD (k + 1 + i) 0) :=
  predictRun_eq ha hr hk

/-- Each forward prediction from the eight values below it (R120). -/
theorem forward_eq {a left : List Int} (ha : a.length = 8) (hl : left.length = 8) {g k : Nat} (hk : k < g) :
    (left ++ forward a left g)[8 + k]? =
      some (predictFrom a fun i => (left ++ forward a left g).getD (7 + k - i) 0) := by
  have hnewest : (predictRun a g left.reverse).reverse ++ left.reverse = (left ++ forward a left g).reverse := by
    rw [List.reverse_append]
    rfl
  have hlength : (left ++ forward a left g).length = 8 + g := by simp [hl, forward_length]
  have hread {m i : Nat} (hmi : m + i = 7 + g) :
      (left ++ forward a left g).reverse[m]? = (left ++ forward a left g)[i]? := by
    rw [List.getElem?_reverse (by omega)]
    congr 1
    omega
  have hrun := predictRun_eq (c := left.reverse) ha (by simpa) (show g - 1 - k < g by omega)
  rw [hnewest, hread (i := 8 + k) (by omega)] at hrun
  rw [hrun]
  refine congrArg some (predictFrom_congr fun i hi => ?_)
  rw [List.getD_eq_getElem?_getD, List.getD_eq_getElem?_getD, hread (i := 7 + k - i) (by omega)]

/-! ### The results of a job -/

theorem blendFrom_getElem? (g j : Nat) {fs bs : List Int} (h : fs.length = bs.length) {k : Nat}
    (hk : k < fs.length) :
    (blendFrom g j fs bs)[k]? = some (blend g (j + k) (fs.getD k 0) (bs.getD k 0)) := by
  induction fs generalizing j bs k with
  | nil => simp at hk
  | cons f fs ih =>
    cases bs with
    | nil => simp at h
    | cons b bs =>
      cases k with
      | zero => rfl
      | succ k =>
        have := ih (j + 1) (by simpa using h) (k := k) (by simpa using hk)
        rw [blendFrom, List.getElem?_cons_succ, this, List.getD_cons_succ, List.getD_cons_succ,
          Nat.add_right_comm, Nat.add_assoc]

theorem blendFrom_length (g j : Nat) {fs bs : List Int} (h : fs.length = bs.length) :
    (blendFrom g j fs bs).length = fs.length := by
  induction fs generalizing j bs with
  | nil => rfl
  | cons f fs ih =>
    cases bs with
    | nil => simp at h
    | cons b bs => simp [blendFrom, ih (j + 1) (by simpa using h)]

theorem blendFrom_in24 (g j : Nat) (fs bs : List Int) : ∀ y ∈ blendFrom g j fs bs, In24 y := by
  induction fs generalizing j bs with
  | nil => simp [blendFrom]
  | cons f fs ih =>
    cases bs with
    | nil => simp [blendFrom]
    | cons b bs =>
      rw [blendFrom, List.forall_mem_cons]
      exact ⟨clamp24_in24 _, ih (j + 1) bs⟩

/-- Every result is clamped (R122, R124). -/
theorem Job.results_in24 (j : Job) : ∀ y ∈ j.results, In24 y := by
  unfold results
  split
  · exact blendFrom_in24 _ _ _ _
  · intro y hy
    obtain ⟨v, -, rfl⟩ := List.mem_map.1 hy
    exact clamp24_in24 _

theorem Job.results_interpolate {j : Job} {left right a : List Int}
    (h : j.work = .interpolate left right a) :
    j.results = blendFrom j.gap 1 (forward a left j.gap) (backward a right j.gap) := by
  simp only [results, h]

theorem Job.results_half {j : Job} {c : Half} {span : List (Int × Int × Int)} (h : j.work = .half c span) :
    j.results = span.map halfResult := by
  simp only [results, h]

end Sys2Proof.Machine

namespace Sys2Proof.Settled

open Sys2Proof.Machine

/-- Settles O57: both directions are `predictRun_eq`, and every result is a clamped blend or a clamped
clean half. -/
theorem repairArithmetic : Obligations.RepairArithmetic := by
  refine ⟨fun a left right g ha hl hr => ?_, fun j h span hwork => Job.results_half hwork, Job.results_in24⟩
  have hlengths : (forward a left g).length = (backward a right g).length := by
    rw [forward_length, backward_length]
  refine ⟨forward_length a left g, backward_length a right g, fun k hk => forward_eq ha hl hk,
    fun k hk => backward_eq ha hr hk, ?_⟩
  rintro j rfl hwork
  rw [Job.results_interpolate hwork]
  refine ⟨(blendFrom_length _ _ hlengths).trans (forward_length ..), fun k hk => ?_⟩
  rw [blendFrom_getElem? _ _ hlengths (by rwa [forward_length])]
  simp only [blend, reciprocal, clamp24, clampTo, floorDiv]
  push_cast
  ring_nf

end Sys2Proof.Settled

/-! # The banks stay lawful

What the engine's three rows make of the banks, and that outside of these rows neither a bank changes nor a
record comes into one. Settles O58. -/

namespace Sys2Proof.Machine

/-! ### The lawful banks, told from one of them -/

/-- `Engine.Ok` told from bank b, which is x, where the other bank is y (R114, R117). -/
structure LawfulBanks (b : BankId) (x y : Bank) (order : List BankId) : Prop where
  alone : ¬(x.isRunning = true ∧ y.isRunning = true)
  behind : x.isLoaded = true → y.isRunning = true
  ahead : y.isLoaded = true → x.isRunning = true
  nodup : order.Nodup
  mem : b ∈ order ↔ x.isFinished = true
  memOther : 1 - b ∈ order ↔ y.isFinished = true

theorem Engine.ok_iff_lawful (e : Engine) (b : BankId) :
    e.Ok ↔ LawfulBanks b e.banks[b] e.banks[1 - b] e.finishOrder := by
  match b with
  | 0 => exact ⟨fun ⟨h1, h2, h3, h4, h5, h6⟩ => ⟨h1, h2, h3, h4, h5, h6⟩,
      fun ⟨h1, h2, h3, h4, h5, h6⟩ => ⟨h1, h2, h3, h4, h5, h6⟩⟩
  | 1 => exact ⟨fun ⟨h1, h2, h3, h4, h5, h6⟩ => ⟨fun h => h1 h.symm, h3, h2, h4, h6, h5⟩,
      fun ⟨h1, h2, h3, h4, h5, h6⟩ => ⟨fun h => h1 h.symm, h3, h2, h4, h6, h5⟩⟩

theorem Engine.ok_of_lawful {e : Engine} {b : BankId} {x y : Bank} {order : List BankId}
    (hx : e.banks[b] = x) (hy : e.banks[1 - b] = y) (ho : e.finishOrder = order)
    (h : LawfulBanks b x y order) : e.Ok := by
  subst hx hy ho
  exact (e.ok_iff_lawful b).2 h

section Lawful

variable {b : BankId} {y : Bank} {order : List BankId}

/-- An EMPTY bank takes a job, and runs it unless the other bank runs (R113, R114). -/
theorem LawfulBanks.load (h : LawfulBanks b .empty y order) (j : Job) :
    LawfulBanks b (if !y.isRunning then .running j else .loaded j) y order := by
  obtain ⟨-, -, hahead, hnodup, hmem, hother⟩ := h
  cases hr : y.isRunning with
  | true =>
    exact ⟨fun ⟨hx, _⟩ => (nomatch hx), fun _ => hr, fun hl => (nomatch hahead hl), hnodup, hmem, hother⟩
  | false =>
    exact ⟨fun ⟨_, hy⟩ => absurd hy (by simp [hr]), fun hl => (nomatch hl), fun _ => rfl, hnodup, hmem,
      hother⟩

/-- The RUNNING bank finishes, and no LOADED bank is left behind it: z is the other bank after that (R115). -/
theorem LawfulBanks.finish {j : Job} (h : LawfulBanks b (.running j) y order) {z : Bank}
    (hz : z.isLoaded = false) (hf : z.isFinished = y.isFinished) (rs : List Int) :
    LawfulBanks b (.finished j rs) z (order ++ [b]) := by
  obtain ⟨-, -, -, hnodup, hmem, hother⟩ := h
  have hnew : b ∉ order := fun hb => (nomatch hmem.1 hb)
  refine ⟨fun ⟨hx, _⟩ => (nomatch hx), fun hl => (nomatch hl), fun hl => absurd hl (by simp [hz]), ?_, ?_, ?_⟩
  · simpa [List.nodup_append, hnodup] using fun a ha (hab : a = b) => hnew (hab ▸ ha)
  · simp [Bank.isFinished]
  · rw [List.mem_append, List.mem_singleton, hother, hf, or_iff_left (one_sub_bank_ne b)]

/-- The bank that completed first becomes EMPTY (R117). -/
theorem LawfulBanks.empty {j : Job} {rs : List Int} (h : LawfulBanks b (.finished j rs) y (b :: order)) :
    LawfulBanks b .empty y order := by
  obtain ⟨-, -, hahead, hnodup, -, hother⟩ := h
  obtain ⟨hout, hnodup⟩ := List.nodup_cons.1 hnodup
  rw [List.mem_cons, or_iff_right (one_sub_bank_ne b)] at hother
  exact ⟨fun ⟨hx, _⟩ => (nomatch hx), fun hl => (nomatch hl), fun hl => (nomatch hahead hl), hnodup,
    ⟨fun hb => absurd hb hout, fun hb => (nomatch hb)⟩, hother⟩

end Lawful

/-! ### The rows of the Repair Engine -/

/-- A load does nothing, or puts the oldest QUEUED record of a lane into an EMPTY bank (R109, R113). -/
theorem loadJob_cases (s : State) :
    loadJob s = s ∨ ∃ (b : BankId) (l : LaneId) (r : DefectRecord) (runs : Bool),
      s.engine.banks[b] = .empty ∧ (s.lanes[l]).run.queue.oldestQueued = some r ∧
      runs = !(s.engine.banks[1 - b]).isRunning ∧
      loadJob s =
        (s.setLane l { s.lanes[l] with run := { (s.lanes[l]).run with
          queue := (s.lanes[l]).run.queue.update (loadedRecord s.lanes[l] r b runs) } }).setEngine
          { s.engine.setBank b
              (if runs then .running (jobOf l s.lanes[l] r) else .loaded (jobOf l s.lanes[l] r)) with
            pointer := l } := by
  have hempty {b : BankId} (h : s.engine.bankToFill = some b) : s.engine.banks[b] = .empty := by
    unfold Engine.bankToFill at h
    split at h
    case isTrue h0 => cases h; exact h0
    case isFalse =>
      split at h
      case isTrue h1 => cases h; exact h1
      case isFalse => cases h
  cases hb : s.engine.bankToFill with
  | none => exact .inl (by simp only [loadJob, hb])
  | some b =>
    cases hl : s.laneToServe with
    | none => exact .inl (by simp only [loadJob, hb, hl])
    | some l =>
      cases hr : (s.lanes[l]).run.queue.oldestQueued with
      | none => exact .inl (by simp only [loadJob, hb, hl, hr])
      | some r => exact .inr ⟨b, l, r, _, hempty hb, hr, rfl, loadJob_eq hb hl hr rfl⟩

/-- A completion does nothing, or finishes the RUNNING bank, and starts the job of a LOADED other one
(R115). -/
theorem completeJob_cases (s : State) :
    completeJob s = s ∨ ∃ (b : BankId) (j : Job), s.engine.banks[b] = .running j ∧
      ((s.engine.banks[1 - b]).isLoaded = false ∧ completeJob s = s.setEngine (s.engine.finish b j) ∨
        ∃ j', s.engine.banks[1 - b] = .loaded j' ∧
          completeJob s = (startRepair s j' (1 - b)).setEngine
            ((s.engine.finish b j).setBank (1 - b) (.running j'))) := by
  cases hr : s.engine.runningBank with
  | none => exact .inl (completeJob_idle hr)
  | some x =>
    obtain ⟨b, j⟩ := x
    refine .inr ⟨b, j, Engine.bank_of_runningBank hr, ?_⟩
    cases ho : s.engine.banks[1 - b] with
    | loaded j' => exact .inr ⟨j', rfl, completeJob_starts hr ho⟩
    | empty | running _ | finished _ _ => exact .inl ⟨rfl, completeJob_alone hr (by rw [ho]; rfl)⟩

/-- A write-back does nothing, or empties the bank that completed first (R117). -/
theorem writeBackStep_cases (s : State) :
    writeBackStep s = s ∨ ∃ (b : BankId) (order : List BankId) (j : Job) (rs : List Int),
      s.engine.finishOrder = b :: order ∧ s.engine.banks[b] = .finished j rs ∧
      writeBackStep s =
        (s.putWork (writeBackLane b j rs (s.work j.lane))).setEngine (s.engine.emptied b) := by
  cases ho : s.engine.finishOrder with
  | nil => exact .inl (writeBackStep_idle (Engine.bankToWrite_eq_none ho))
  | cons b order =>
    cases hb : s.engine.banks[b] with
    | finished j rs => exact .inr ⟨b, order, j, rs, rfl, hb, writeBackStep_eq (Engine.bankToWrite_eq ho hb)⟩
    | empty | loaded _ | running _ => exact .inl (writeBackStep_idle (by simp only [Engine.bankToWrite, ho, hb]))

theorem Engine.Ok.load {e : Engine} (h : e.Ok) {b : BankId} (hb : e.banks[b] = .empty) (j : Job) :
    (e.setBank b (if !(e.banks[1 - b]).isRunning then .running j else .loaded j)).Ok := by
  rw [e.ok_iff_lawful b, hb] at h
  exact Engine.ok_of_lawful (e.setBank_same ..) (e.setBank_other _ (one_sub_bank_ne b)) rfl (h.load j)

/-- A bank finishes, and a LOADED other bank has left its place to a RUNNING one (R115). -/
theorem Engine.Ok.finish {e : Engine} (h : e.Ok) {b : BankId} {j : Job} (hb : e.banks[b] = .running j) :
    ((e.banks[1 - b]).isLoaded = false → (e.finish b j).Ok) ∧
      ∀ j', e.banks[1 - b] = .loaded j' → ((e.finish b j).setBank (1 - b) (.running j')).Ok := by
  have hne := one_sub_bank_ne b
  have hfinished : (e.finish b j).banks[b] = .finished j j.results := e.setBank_same ..
  rw [e.ok_iff_lawful b, hb] at h
  refine ⟨fun ho => ?_, fun j' ho => ?_⟩
  · exact Engine.ok_of_lawful hfinished (e.setBank_other _ hne) rfl (h.finish ho rfl j.results)
  · exact Engine.ok_of_lawful (((e.finish b j).setBank_other _ hne.symm).trans hfinished)
      (Engine.setBank_same ..) rfl (h.finish rfl (by rw [ho]; rfl) j.results)

theorem Engine.Ok.emptied {e : Engine} (h : e.Ok) {b : BankId} {order : List BankId} {j : Job} {rs : List Int}
    (ho : e.finishOrder = b :: order) (hb : e.banks[b] = .finished j rs) : (e.emptied b).Ok := by
  rw [e.ok_iff_lawful b, hb, ho] at h
  refine Engine.ok_of_lawful (e.setBank_same ..) (e.setBank_other _ (one_sub_bank_ne b)) ?_ h.empty
  rw [Engine.emptied, ho]
  rfl

theorem loadJob_engineOk {s : State} (h : s.engine.Ok) : (loadJob s).engine.Ok := by
  rcases loadJob_cases s with he | ⟨b, l, r, runs, hb, -, rfl, he⟩
  · rwa [he]
  · rw [he]
    exact h.load hb _

theorem completeJob_engineOk {s : State} (h : s.engine.Ok) : (completeJob s).engine.Ok := by
  rcases completeJob_cases s with he | ⟨b, j, hb, ⟨ho, he⟩ | ⟨j', ho, he⟩⟩
  · rwa [he]
  · rw [he]
    exact (h.finish hb).1 ho
  · rw [he]
    exact (h.finish hb).2 j' ho

theorem writeBackStep_engineOk {s : State} (h : s.engine.Ok) : (writeBackStep s).engine.Ok := by
  rcases writeBackStep_cases s with he | ⟨b, order, j, rs, ho, hb, he⟩
  · rwa [he]
  · rw [he]
    exact h.emptied ho hb


/-! ### No new job in a lane's events -/

/-- A bank holds the record's job: it is LOADED or IN_REPAIR (R97, R113). -/
def DefectRecord.InBank (r : DefectRecord) : Prop := r.state = .loaded ∨ r.state = .inRepair

theorem DefectRecord.not_inBank {r : DefectRecord} (hl : r.state ≠ .loaded) (hr : r.state ≠ .inRepair) :
    ¬r.InBank := not_or.2 ⟨hl, hr⟩

theorem DefectRecord.not_inBank_of_opened {r : DefectRecord} (h : r.state = .opened) : ¬r.InBank :=
  not_inBank (by simp [h]) (by simp [h])

/-- From q to q' no record has come into a bank, or changed there. -/
def DefectQueue.AddsNoJob (q q' : DefectQueue) : Prop := ∀ r ∈ q'.records, r.InBank → r ∈ q.records

namespace DefectQueue.AddsNoJob

theorem refl (q : DefectQueue) : q.AddsNoJob q := fun _ h _ => h

theorem trans {a b c : DefectQueue} (h : a.AddsNoJob b) (k : b.AddsNoJob c) : a.AddsNoJob c :=
  fun r hr hb => h r (k r hr hb) hb

theorem of_records {q q' : DefectQueue} (h : q'.records = q.records) : q.AddsNoJob q' := fun _ hr _ => h ▸ hr

theorem of_queue {q q' : DefectQueue} (h : q' = q) : q.AddsNoJob q' := of_records (by rw [h])

/-- A record rewritten that is in no bank after that. -/
theorem update {q : DefectQueue} {r : DefectRecord} (h : ¬r.InBank) : q.AddsNoJob (q.update r) :=
  fun o ho hb => by
    rcases mem_update ho with rfl | ⟨ho, -⟩
    · exact absurd hb h
    · exact ho

end DefectQueue.AddsNoJob

theorem Work.NoNewRecords.addsNoJob {w w' : Work} (h : w.NoNewRecords w') :
    w.lane.run.queue.AddsNoJob w'.lane.run.queue := fun r hr _ => h r hr

theorem openRecord_addsNoJob (w : Work) (a b : Pos) (c : Causes) (p : Nat) (t : Nat × Nat) :
    w.lane.run.queue.AddsNoJob (openRecord w a b c p t).lane.run.queue := by
  rcases Nat.lt_or_ge w.lane.run.queue.records.length 32 with h | h
  · rw [openRecord_eq a b c p t h]
    intro r hr hb
    rcases List.mem_append.1 hr with hr | hr
    · exact hr
    · rw [List.mem_singleton.1 hr] at hb
      exact absurd hb (DefectRecord.not_inBank_of_opened rfl)
  · rw [openRecord_full a b c p t h]
    exact .of_records rfl

theorem openAt_addsNoJob (w : Work) (n : Entry) (b : Bool) (m : Measures) (d : Demand) :
    w.lane.run.queue.AddsNoJob (openAt w n b m d).lane.run.queue := by
  unfold openAt
  dsimp only
  split
  · exact .refl _
  · exact openRecord_addsNoJob _ _ _ _ _ _

theorem openRemainder_addsNoJob (w : Work) (n : Entry) (p : Pos) (d : Demand) :
    w.lane.run.queue.AddsNoJob (openRemainder w n p d).lane.run.queue := by
  unfold openRemainder
  split
  · exact openRecord_addsNoJob _ _ _ _ _ _
  · exact .refl _

/-- The OPEN record extended, and closed at the cap (R92, R94). -/
theorem extendRecord_addsNoJob (w : Work) {r : DefectRecord} (ho : r.state = .opened) (n : Entry)
    (m : Measures) (d : Demand) :
    w.lane.run.queue.AddsNoJob (extendRecord w r n m d).lane.run.queue := by
  obtain ⟨-, hstate, -⟩ := addEnergy_keeps w.lane.run (extended w.lane r n.pos d) m n.pos
  unfold extendRecord
  dsimp only
  generalize addEnergy w.lane.run (extended w.lane r n.pos d) m n.pos = a at *
  have hput : w.lane.run.queue.AddsNoJob (w.lane.run.queue.update a.1) :=
    .update (DefectRecord.not_inBank_of_opened (hstate.trans ho))
  have hclosed : w.lane.run.queue.AddsNoJob
      ((w.lane.run.queue.update a.1).update { a.1 with state := .long }) :=
    hput.trans (.update (DefectRecord.not_inBank (by simp) (by simp)))
  split
  · split
    · exact hclosed.trans (openAt_addsNoJob (w.setRun _) n false m d)
    · exact hclosed.trans (openRemainder_addsNoJob (w.setRun _) n _ d)
  · exact hput

theorem recordActions_addsNoJob (w : Work) (n : Entry) (m : Measures) (d : Demand) :
    w.lane.run.queue.AddsNoJob (recordActions w n m d).lane.run.queue := by
  unfold recordActions
  split
  case h_1 r hr =>
    obtain ⟨-, ho⟩ := openRecord_mem hr
    split
    · exact extendRecord_addsNoJob w ho n m d
    · obtain ⟨-, hstate, -⟩ := addEnergy_keeps w.lane.run r m n.pos
      exact .update (DefectRecord.not_inBank_of_opened (hstate.trans ho))
  case h_2 => exact openAt_addsNoJob _ _ _ _ _

theorem closingTest_addsNoJob (w : Work) (n : Pos) :
    w.lane.run.queue.AddsNoJob (closingTest w n).lane.run.queue := by
  unfold closingTest
  split
  case h_1 r _ =>
    split
    · refine .update (r := { r with state := if r.overLength then .long else .queued }) ?_
      cases r.overLength <;> exact DefectRecord.not_inBank (by simp) (by simp)
    · exact .refl _
  case h_2 => exact .refl _

theorem examine_addsNoJob (w : Work) (n : Entry) :
    w.lane.run.queue.AddsNoJob (examine w n).lane.run.queue := by
  unfold examine
  split
  · exact .refl _
  · obtain ⟨m, c, v, det, rfl, he, -⟩ := examineEntry_eq w n
    rw [he]
    exact (recordActions_addsNoJob w.settled n m _).trans (closingTest_addsNoJob _ _)

theorem makeRoom_addsNoJob (n : Nat) (w : Work) :
    w.lane.run.queue.AddsNoJob (makeRoom n w).lane.run.queue :=
  makeRoom_induction (P := fun v => w.lane.run.queue.AddsNoJob v.lane.run.queue) n (.refl _)
    fun v hv _ => by
      have hfreed : v.lane.run.queue.AddsNoJob v.freed.lane.run.queue := by
        unfold Work.freed
        split
        · simp only [Work.raise_lane, Lane.raise_run, Work.setRun_lane, abandon_queue]
          exact .update (DefectRecord.not_inBank (by simp) (by simp))
        · exact .refl _
      rw [makeRoomOnce_eq]
      exact hv.trans (hfreed.trans (depart_noNewRecords _).addsNoJob)

theorem entryEvent_addsNoJob (w : Work) (o : Output) :
    w.lane.run.queue.AddsNoJob (entryEvent w o).lane.run.queue := by
  obtain ⟨hindexed, -⟩ := indexOutput_queue w o
  have hplaced (v : Work) (e : Entry) : v.lane.run.queue.AddsNoJob (placeEntry v e).lane.run.queue :=
    .of_queue (placeEntry_queue v e)
  exact ((((DefectQueue.AddsNoJob.of_queue hindexed).trans (makeRoom_addsNoJob _ _)).trans (hplaced _ _)).trans
    (examine_addsNoJob _ _)).trans (departureTest_noNewRecords _).addsNoJob

/-- No event of a lane brings a record into a bank. -/
theorem addsNoJob_keptInEvents (q : DefectQueue) : KeptInEvents fun l => q.AddsNoJob l.run.queue where
  same h k := h.trans (.of_queue k.queue)
  output p q w h := h.trans (entryEvent_addsNoJob (w.setRun _) (outputAt w.lane p q))
  lost w h := by
    cases hr : w.lane.run.queue.openRecord with
    | none => rw [onSignalLost_none hr]; exact h
    | some r =>
      rw [onSignalLost_some hr]
      have hclosed : w.lane.run.queue.AddsNoJob (w.lane.run.queue.update { r with state := .long }) :=
        .update (DefectRecord.not_inBank (by simp) (by simp))
      exact (h.trans hclosed).trans
        (departureTest_noNewRecords (((w.raise .signalState).note .signalLost).setRun _)).addsNoJob

/-! ### No new job outside the engine's rows -/

/-- From w to v no record has come into a bank, and one that is in a bank is of the same run (R117). -/
structure Work.AddsNoJob (w v : Work) : Prop where
  id : v.id = w.id
  jobs : w.lane.run.queue.AddsNoJob v.lane.run.queue
  runNumber : (∃ r ∈ v.lane.run.queue.records, r.InBank) → v.lane.runNumber = w.lane.runNumber

namespace Work.AddsNoJob

variable {w v : Work}

theorem of_same (hid : v.id = w.id := by rfl) (hq : v.lane.run.queue = w.lane.run.queue := by rfl)
    (hn : v.lane.runNumber = w.lane.runNumber := by rfl) : w.AddsNoJob v :=
  ⟨hid, .of_queue hq, fun _ => hn⟩

theorem refl (w : Work) : w.AddsNoJob w := of_same

/-- What leaves no record. -/
theorem of_empty (hid : v.id = w.id) (hq : v.lane.run.queue.records = []) : w.AddsNoJob v :=
  ⟨hid, fun r hr => absurd hr (by simp [hq]), fun ⟨r, hr, _⟩ => absurd hr (by simp [hq])⟩

theorem of_keeps (hk : w.Keeps v) (hq : w.lane.run.queue.AddsNoJob v.lane.run.queue) : w.AddsNoJob v := by
  obtain ⟨-, hn, -⟩ := hk.config
  exact ⟨hk.id, hq, fun _ => hn⟩

theorem ite {x y : Work × Answer} {c : Prop} [Decidable c] (hx : w.AddsNoJob x.1) (hy : w.AddsNoJob y.1) :
    w.AddsNoJob (if c then x else y).1 := by
  split <;> assumption

end Work.AddsNoJob

section Commands

variable (w : Work)

theorem stopEffects_addsNoJob : w.AddsNoJob (stopEffects w) := by
  obtain ⟨a, b, latch, hl, hid⟩ := stopEffects_lane w
  exact .of_empty hid (by rw [hl]; rfl)

theorem resetLaneEffects_addsNoJob : w.AddsNoJob (resetLaneEffects w) := by
  by_cases hr : w.lane.state = .running
  · obtain ⟨hid, hjobs, hn⟩ := stopEffects_addsNoJob w
    rw [resetLaneEffects_running hr]
    exact ⟨hid, hjobs, hn⟩
  · rw [resetLaneEffects_notRunning hr]
    exact .of_same

theorem setParamBody_addsNoJob (payload : List Byte) : w.AddsNoJob (setParamBody payload w).1 := by
  have hwritten (p : Param) (v : Int) : w.AddsNoJob (w.setLane (w.lane.writeParam p v)) := by
    refine .of_same rfl (by rw [Work.setLane_lane, Lane.writeParam_run]) ?_
    simp only [Work.setLane_lane, Lane.writeParam, Lane.consequences]
    split
    case h_5 => split <;> rfl
    all_goals rfl
  unfold setParamBody
  dsimp only
  split
  · exact .refl w
  · exact .ite (.refl w) (hwritten _ _)

theorem getParamBody_addsNoJob (payload : List Byte) : w.AddsNoJob (getParamBody payload w).1 := by
  unfold getParamBody
  split <;> exact .refl w

theorem readTableBody_addsNoJob (payload : List Byte) : w.AddsNoJob (readTableBody payload w).1 := by
  unfold readTableBody
  dsimp only
  split
  · exact .refl w
  · exact .ite (.refl w) (.refl w)

theorem writeTableBody_addsNoJob (payload : List Byte) : w.AddsNoJob (writeTableBody payload w).1 := by
  have hwritten (t : Table) (first : Nat) (vs : List Int) :
      w.AddsNoJob (w.setLane (w.lane.writeTable t first vs)) := by
    cases t <;> exact .of_same
  unfold writeTableBody
  dsimp only
  split
  case h_1 | h_2 => exact .refl w
  case h_3 => exact .ite (.refl w) (.ite (.refl w) (.ite (.refl w) (hwritten _ _ _)))

/-- A slot set, and the load order with it. -/
theorem setSlot_addsNoJob (i : SlotId) (x : Slot) (order : List SlotId) :
    w.AddsNoJob (w.setLane { w.lane.setSlot i x with loadOrder := order }) := by
  cases i <;> exact .of_same

theorem loadSegmentBody_addsNoJob (payload : List Byte) : w.AddsNoJob (loadSegmentBody payload w).1 := by
  unfold loadSegmentBody
  refine .ite (.refl w) ?_
  split
  · exact .refl w
  · exact setSlot_addsNoJob w _ _ _

theorem endSegmentBody_addsNoJob (payload : List Byte) : w.AddsNoJob (endSegmentBody payload w).1 := by
  unfold endSegmentBody
  split
  · exact .refl w
  · split
    · exact setSlot_addsNoJob w _ _ _
    · exact setSlot_addsNoJob w _ _ _
    · exact .refl w
    · exact .refl w

theorem collectReportBody_addsNoJob (payload : List Byte) :
    w.AddsNoJob (collectReportBody payload w).1 := by
  unfold collectReportBody
  split
  · exact .refl w
  · split
    · exact setSlot_addsNoJob w _ _ _
    · exact .refl w
    · exact .refl w
    · exact .refl w

theorem takeWord_addsNoJob (f : SensorFields) : w.AddsNoJob (takeWord f w) :=
  .of_keeps (takeWord_keeps f w) ((addsNoJob_keptInEvents _).takeWord (.refl _) f)

theorem takeEdge_addsNoJob (k : EdgeKind) : w.AddsNoJob (takeEdge k w) :=
  .of_keeps (takeEdge_keeps k w) ((addsNoJob_keptInEvents _).takeEdge (.refl _) k)

theorem generateInstant_addsNoJob : w.AddsNoJob (generateInstant w) :=
  .of_keeps (generateInstant_keeps w) ((addsNoJob_keptInEvents _).generateInstant (.refl _))

theorem formLaneNotice_addsNoJob (id : LaneId) : w.AddsNoJob (formLaneNotice id w) := by
  unfold formLaneNotice
  split
  · exact .of_same
  · exact .refl w

end Commands

/-! ### What a step does to the engine and the records in its banks -/

/-- From s to t no lane has a record that has come into a bank. -/
def State.AddsNoJob (s t : State) : Prop :=
  ∀ l : LaneId, ∃ v, (s.work l).AddsNoJob v ∧ t.lanes[l] = v.lane

/-- What a step makes of the engine and the records in its banks: all is as at reset; or the engine stays,
and no record comes into a bank; or it is one of the engine's three rows. -/
inductive State.EngineStep (s : State) : State → Prop
  | reset {t : State} (he : t.engine = Engine.reset) (hl : ∀ l : LaneId, t.lanes[l] = Lane.reset) :
      s.EngineStep t
  | aside {t : State} (he : t.engine = s.engine) (hl : s.AddsNoJob t) : s.EngineStep t
  | load : s.EngineStep (loadJob s)
  | complete : s.EngineStep (completeJob s)
  | writeBack : s.EngineStep (writeBackStep s)

namespace State.EngineStep

variable {s t : State}

/-- The lanes and the engine as they were. -/
theorem of_same (he : t.engine = s.engine := by rfl) (hl : t.lanes = s.lanes := by rfl) :
    s.EngineStep t := .aside he fun l => ⟨_, .refl _, by rw [hl]; rfl⟩

theorem putWork {l : LaneId} {w : Work} (h : (s.work l).AddsNoJob w) (he : t.engine = s.engine)
    (hl : t.lanes = (s.putWork w).lanes) : s.EngineStep t := by
  refine .aside he fun i => ?_
  rw [hl, State.lanes_putWork]
  split
  case isTrue hi =>
    obtain rfl : i = l := hi.trans h.id
    exact ⟨w, h, rfl⟩
  case isFalse => exact ⟨_, .refl _, rfl⟩

theorem laneEvent {l : LaneId} {f : Work → Work} (h : ∀ w : Work, w.AddsNoJob (f w)) :
    s.EngineStep (laneEvent l f s) := by
  unfold Machine.laneEvent
  split
  · exact .of_same
  · exact .putWork (h (s.work l)) rfl rfl

theorem takeLane {kind : Byte} {lenOk : Nat → Bool} {c : Command} {body : Work → Work × Answer}
    (h : ∀ w : Work, w.AddsNoJob (body w).1) : s.EngineStep (takeLane kind lenOk c body s) := by
  rcases takeLane_cases kind lenOk c body s with he | ⟨r, he⟩ | ⟨l, -, -, he⟩ <;> rw [he]
  · exact .of_same
  · exact .of_same
  · exact .putWork (h (s.work l)) rfl rfl

theorem takeDevice {kind : Byte} {len : Nat} {c : Command} {body : State → State × Answer}
    (he : (body s).1.engine = s.engine) (hl : (body s).1.lanes = s.lanes) :
    s.EngineStep (takeDevice kind len c body s) := by
  rcases takeDevice_cases kind len c body s with h | ⟨r, h⟩ | h <;> rw [h]
  · exact .of_same
  · exact .of_same
  · exact .of_same he hl

theorem unless_held (h : s.EngineStep t) : s.EngineStep (if s.resetHeld then s else t) := by
  split
  · exact .of_same
  · exact h

theorem namedEvent (e : StepEvent) (c : Cause) : s.EngineStep (namedEvent e c s) := by
  unfold Machine.namedEvent
  split
  · cases c with
    | word b => exact .laneEvent (takeWord_addsNoJob · _)
    | generator l => exact .laneEvent generateInstant_addsNoJob
    | writeBack => exact .unless_held .writeBack
  · exact .of_same

end State.EngineStep

/-- What each row does to the engine and the records in its banks. -/
theorem exec_engineStep {i : Instr} {s t : State} (h : exec i s = .next t) : s.EngineStep t := by
  have hcleared : ∀ l : LaneId, State.reset.lanes[l] = Lane.reset := State.reset_lanes
  cases i with
  | resetnAsserted => cases h; exact .reset rfl hcleared
  | resetnReleased =>
    cases h
    split
    · exact .reset rfl hcleared
    · exact .of_same
  | resetAfterReply =>
    cases h
    split
    · split
      · exact .reset rfl hcleared
      · exact .of_same
    · exact .of_same
  | frameSent =>
    cases h
    split
    · split
      · exact .of_same
      · split
        · exact .reset rfl hcleared
        · exact .of_same
    · exact .of_same
  | identify c | deviceReset c | getLinkStats c | clearLinkStats c => cases h; exact .takeDevice rfl rfl
  | unknownKind kind c =>
    cases h
    split <;> exact .of_same
  | setNoticeMask c =>
    cases h
    split
    · exact .takeDevice rfl rfl
    · exact .takeLane fun _ => .of_same
  | enableLane c | disableLane c => cases h; exact .takeLane fun w => .ite .of_same (.refl w)
  | startLane c => cases h; exact .takeLane fun w => .ite (.of_empty rfl rfl) (.refl w)
  | stopLane c => cases h; exact .takeLane fun w => .ite (stopEffects_addsNoJob w) (.refl w)
  | resetLane c => cases h; exact .takeLane resetLaneEffects_addsNoJob
  | defaultLane c => cases h; exact .takeLane fun w => .ite (.refl w) .of_same
  | queryLane c => cases h; exact .takeLane .refl
  | setParam c => cases h; exact .takeLane (setParamBody_addsNoJob · _)
  | getParam c => cases h; exact .takeLane (getParamBody_addsNoJob · _)
  | readTable c => cases h; exact .takeLane (readTableBody_addsNoJob · _)
  | writeTable c => cases h; exact .takeLane (writeTableBody_addsNoJob · _)
  | loadSegment c => cases h; exact .takeLane (loadSegmentBody_addsNoJob · _)
  | endSegment c => cases h; exact .takeLane (endSegmentBody_addsNoJob · _)
  | collectReport c => cases h; exact .takeLane (collectReportBody_addsNoJob · _)
  | sensorWord b => cases h; exact .laneEvent (takeWord_addsNoJob · _)
  | perfEdge l | spliceEdge l => cases h; exact .laneEvent (takeEdge_addsNoJob · _)
  | generatorInstant l => cases h; exact .laneEvent generateInstant_addsNoJob
  | signalLost c | signalRecovered c | trackLock c | outlierLossOfLock c | trackTimeout c
  | recordClose c | templateSwap c | floorUpdate c | segmentLengthEnd c =>
    cases h
    exact .namedEvent _ c
  | jobLoad => cases h; exact .unless_held .load
  | jobCompletion => cases h; exact .unless_held .complete
  | writeBack => cases h; exact .unless_held .writeBack
  | frameReceived codes =>
    cases h
    split
    · split <;> exact .of_same
    · exact .of_same
  | replyEntry =>
    cases h
    split
    · split <;> exact .of_same
    · exact .of_same
  | noticeFormed latch =>
    cases h
    cases latch with
    | lane l => exact .laneEvent (formLaneNotice_addsNoJob · l)
    | device =>
      dsimp only [formDeviceNotice]
      split <;> exact .of_same

/-- A step is a row on the state without the command it takes, or an idle character. -/
theorem step_engineStep {s t : State} (h : step s = .next t) :
    ∃ rest, ({ s with pending := rest } : State).EngineStep t := by
  unfold step at h
  split at h
  · cases h
    refine ⟨s.pending, ?_⟩
    unfold idleTick
    split <;> exact .of_same
  · exact ⟨_, exec_engineStep h⟩

end Sys2Proof.Machine

namespace Sys2Proof.Settled

open Sys2Proof.Machine

/-- Settles O58: the engine's three rows keep the banks lawful, and no other row changes them. -/
theorem banksStayLawful : Obligations.BanksStayLawful := by
  intro s t h hstep
  obtain ⟨rest, hrow⟩ := step_engineStep hstep
  cases hrow with
  | reset he _ =>
    obtain ⟨-, hreset, -⟩ := invariantsHoldAtReset
    rw [he]
    exact hreset
  | aside he _ => rw [he]; exact h
  | load => exact loadJob_engineOk h
  | complete => exact completeJob_engineOk h
  | writeBack => exact writeBackStep_engineOk h

end Sys2Proof.Settled

/-! # The records whose jobs the banks hold

A load, a completion and a write-back move a record and its bank together. Settles O59. -/

namespace Sys2Proof.Machine

/-! ### The bank that holds a record's job -/

/-- The engine holds record r of lane l's run n in the bank it names (R113, R114). -/
def Engine.Holds (e : Engine) (l : LaneId) (n : BitVec 8) (r : DefectRecord) : Prop :=
  ∃ b : BankId, r.holding = some b ∧ ∃ j ∈ (e.banks[b]).jobFor r.state,
    j.lane = l ∧ j.runNumber = n ∧ j.recordId = r.id

theorem State.recordsHeld_iff {s : State} :
    s.RecordsHeld ↔ ∀ l : LaneId, ∀ r ∈ (s.lanes[l]).run.queue.records, r.InBank →
      s.engine.Holds l (s.lanes[l]).runNumber r := Iff.rfl

/-- A bank set to x still holds a record's job, when x holds it where the record names that bank. -/
theorem Engine.Holds.setBank {e : Engine} {l : LaneId} {n : BitVec 8} {r : DefectRecord}
    (h : e.Holds l n r) {b : BankId} {x : Bank}
    (hx : r.holding = some b → ∀ j ∈ (e.banks[b]).jobFor r.state, j ∈ x.jobFor r.state) :
    (e.setBank b x).Holds l n r := by
  obtain ⟨c, hc, j, hj, hjob⟩ := h
  refine ⟨c, hc, j, ?_, hjob⟩
  by_cases hbc : c = b
  · subst hbc
    rw [setBank_same]
    exact hx hc j hj
  · rwa [setBank_other _ _ hbc]

/-- The job a bank has for a record: LOADED for a LOADED one, RUNNING or FINISHED for an IN_REPAIR one
(R114). -/
theorem Bank.mem_jobFor_iff {x : Bank} {st : RecordState} {j : Job} :
    j ∈ x.jobFor st ↔ x = .loaded j ∧ st = .loaded ∨
      (x = .running j ∨ ∃ rs, x = .finished j rs) ∧ st = .inRepair := by
  cases x <;> cases st <;> simp [jobFor]

/-- Two records of a lane have not the same id. -/
def Lane.IdsApart (l : Lane) : Prop :=
  ∀ a ∈ l.run.queue.records, ∀ b ∈ l.run.queue.records, a.id = b.id → a = b

theorem Lane.RecordsOk.idsApart {l : Lane} (h : l.RecordsOk) (hring : l.RingOk) (hqueue : l.QueueOk) :
    l.IdsApart := by
  obtain ⟨hfew, -⟩ := hqueue
  obtain ⟨-, horder⟩ := (Lane.recordsOk_iff hring hfew).1 h
  exact fun _ ha _ hb => horder.records.eq_of_id ha hb

/-- The lanes after one of them has been replaced by x. -/
theorem State.lanes_setLane (s : State) (l i : LaneId) (x : Lane) :
    (s.setLane l x).lanes[i] = if i = l then x else s.lanes[i] := by
  split
  case isTrue h => subst h; exact s.lanes_setLane_same i x
  case isFalse h => exact s.lanes_setLane_other l i x h

/-! ### The records held after each of the engine's rows -/

/-- One record rewritten: it is held, and so are the others of all lanes. -/
theorem recordsHeld_of_update {s : State} {l : LaneId} {q : DefectRecord} {e : Engine}
    (hother : ∀ i : LaneId, ∀ r ∈ (s.lanes[i]).run.queue.records, r.InBank → (i = l → r.id ≠ q.id) →
      e.Holds i (s.lanes[i]).runNumber r)
    (hnew : e.Holds l (s.lanes[l]).runNumber q) :
    ((s.setLane l { s.lanes[l] with run := { (s.lanes[l]).run with
      queue := (s.lanes[l]).run.queue.update q } }).setEngine e).RecordsHeld := by
  rw [State.recordsHeld_iff]
  intro i r hr hbank
  simp only [State.setEngine_lanes, State.lanes_setLane] at hr ⊢
  split at hr
  case isFalse hi =>
    rw [if_neg hi]
    exact hother i r hr hbank fun hil => absurd hil hi
  case isTrue hi =>
    subst hi
    rw [if_pos rfl]
    rcases mem_update hr with rfl | ⟨hr, hid⟩
    · exact hnew
    · exact hother i r hr hbank fun _ => hid

/-- A record in a bank after a write-back was in one before, and is not the one whose results were written
(R117, R118). -/
theorem writeBackLane_inBank {b : BankId} {j : Job} {rs : List Int} {w : Work} {r : DefectRecord}
    (hr : r ∈ (writeBackLane b j rs w).lane.run.queue.records) (hbank : r.InBank) :
    r ∈ w.lane.run.queue.records ∧ w.lane.matching j b ≠ some r := by
  cases hm : w.lane.matching j b with
  | none =>
    rw [writeBackLane_unmatched hm] at hr
    exact ⟨hr, by simp⟩
  | some q =>
    rw [writeBackLane_matched hm] at hr
    rcases mem_update (departureTest_noNewRecords (w.setRun _) r hr) with rfl | ⟨hr, hid⟩
    · exact absurd hbank (DefectRecord.not_inBank (by simp) (by simp))
    · exact ⟨hr, fun hq => hid (by rw [Option.some.inj hq])⟩

section Held

variable {s : State} (h : s.RecordsHeld)
include h

theorem State.RecordsHeld.aside {t : State} (he : t.engine = s.engine) (hl : s.AddsNoJob t) :
    t.RecordsHeld := fun l r hr hbank => by
  obtain ⟨v, ⟨-, hjobs, hn⟩, hv⟩ := hl l
  rw [hv] at hr ⊢
  rw [he, hn ⟨r, hr, hbank⟩]
  exact h l r (hjobs r hr hbank) hbank

/-- The record that names a bank with a job for it is the one that this job finds (R117). -/
theorem State.RecordsHeld.recordOfJob_eq_some (hids : s.EachLane Lane.IdsApart) {i : LaneId}
    {r : DefectRecord} (hr : r ∈ (s.lanes[i]).run.queue.records) (hbank : r.InBank) {b : BankId}
    (hhold : r.holding = some b) {j : Job} (hj : j ∈ (s.engine.banks[b]).jobFor r.state) :
    i = j.lane ∧ (s.lanes[j.lane]).recordOfJob j b = some r := by
  obtain ⟨c, hc, k, hk, hlane, hn, hid⟩ := h i r hr hbank
  obtain rfl : c = b := Option.some.inj (hc.symm.trans hhold)
  obtain rfl : k = j := Option.some.inj (hk.symm.trans hj)
  subst hlane
  have hfound := DefectQueue.find_of_unique hr fun a ha => hids _ a ha r hr
  rw [← hid] at hfound
  exact ⟨rfl, Lane.recordOfJob_eq_some_iff.2 ⟨hn.symm, hfound, hhold⟩⟩

/-- The record that a load has taken names the bank, which holds its job; the others name other banks
(R113). -/
theorem loadJob_recordsHeld : (loadJob s).RecordsHeld := by
  rcases loadJob_cases s with he | ⟨b, l, q, runs, hb, -, -, he⟩
  · rwa [he]
  rw [he]
  refine recordsHeld_of_update (fun i r hr hbank _ => ?_)
    ⟨b, rfl, jobOf l s.lanes[l] q, ?_, rfl, rfl, rfl⟩
  · exact Engine.Holds.setBank (h i r hr hbank) fun _ j hj => by rw [hb] at hj; cases hj
  · show _ ∈ ((s.engine.setBank b _).banks[b]).jobFor _
    rw [Engine.setBank_same]
    cases runs <;> exact rfl

/-- The bank that has finished still holds its job (R115). -/
theorem State.RecordsHeld.finish {b : BankId} {j : Job} (hb : s.engine.banks[b] = .running j) {i : LaneId}
    {r : DefectRecord} (hr : r ∈ (s.lanes[i]).run.queue.records) (hbank : r.InBank) :
    (s.engine.finish b j).Holds i (s.lanes[i]).runNumber r :=
  Engine.Holds.setBank (h i r hr hbank) fun _ k hk => by rwa [hb] at hk

/-- The bank that starts its job holds it for no record but the LOADED one that the job finds (R115). -/
theorem State.RecordsHeld.start (hids : s.EachLane Lane.IdsApart) {b : BankId} {j j' : Job}
    (hb : s.engine.banks[b] = .running j) (ho : s.engine.banks[1 - b] = .loaded j') {i : LaneId}
    {r : DefectRecord} (hr : r ∈ (s.lanes[i]).run.queue.records) (hbank : r.InBank)
    (hnot : r.state = .loaded → i = j'.lane → (s.lanes[j'.lane]).recordOfJob j' (1 - b) ≠ some r) :
    ((s.engine.finish b j).setBank (1 - b) (.running j')).Holds i (s.lanes[i]).runNumber r := by
  refine Engine.Holds.setBank (h.finish hb hr hbank) fun hhold k hk => ?_
  have hwaits : (s.engine.finish b j).banks[1 - b] = s.engine.banks[1 - b] :=
    s.engine.setBank_other _ (one_sub_bank_ne b)
  rw [hwaits] at hk
  obtain ⟨hi, hfound⟩ := h.recordOfJob_eq_some hids hr hbank hhold hk
  rw [ho, Bank.mem_jobFor_iff] at hk
  obtain ⟨rfl, hs⟩ : j' = k ∧ r.state = .loaded := by simpa using hk
  exact absurd hfound (hnot hs hi)

/-- The LOADED record whose job starts becomes IN_REPAIR as its bank becomes RUNNING (R115). -/
theorem completeJob_recordsHeld (hids : s.EachLane Lane.IdsApart) : (completeJob s).RecordsHeld := by
  rcases completeJob_cases s with he | ⟨b, j, hb, ⟨-, he⟩ | ⟨j', ho, he⟩⟩
  · rwa [he]
  · rw [he]
    exact fun i r => h.finish hb
  rw [he]
  by_cases hq : ∃ q, (s.lanes[j'.lane]).recordOfJob j' (1 - b) = some q ∧ q.state = .loaded
  · obtain ⟨q, hfound, hs⟩ := hq
    obtain ⟨hn, hfind, hhold⟩ := Lane.recordOfJob_eq_some_iff.1 hfound
    obtain ⟨-, hid⟩ := DefectQueue.find_eq_some hfind
    rw [startRepair_started hfound hs]
    refine recordsHeld_of_update
      (fun i r hr hbank hne => h.start hids hb ho hr hbank fun _ hi hsame => ?_)
      ⟨1 - b, hhold, j', ?_, rfl, hn.symm, hid.symm⟩
    · obtain rfl := Option.some.inj (hsame.symm.trans hfound)
      exact hne hi rfl
    · rw [Engine.setBank_same]
      exact rfl
  · rw [startRepair_without fun r hr hs => hq ⟨r, hr, hs⟩]
    exact fun i r hr hbank => h.start hids hb ho hr hbank fun hs _ hfound => hq ⟨r, hfound, hs⟩

/-- The emptied bank held the job of no record but the one that is REPAIRED now (R117, R118). -/
theorem writeBackStep_recordsHeld (hids : s.EachLane Lane.IdsApart) : (writeBackStep s).RecordsHeld := by
  rcases writeBackStep_cases s with he | ⟨b, order, j, rs, -, hb, he⟩
  · rwa [he]
  have hkept {i : LaneId} {r : DefectRecord} (hr : r ∈ (s.lanes[i]).run.queue.records) (hbank : r.InBank)
      (hnot : i = j.lane → (s.lanes[j.lane]).matching j b ≠ some r) :
      (s.engine.emptied b).Holds i (s.lanes[i]).runNumber r := by
    refine Engine.Holds.setBank (h i r hr hbank) fun hhold k hk => ?_
    obtain ⟨hi, hfound⟩ := h.recordOfJob_eq_some hids hr hbank hhold hk
    obtain ⟨hn, hfind, -⟩ := Lane.recordOfJob_eq_some_iff.1 hfound
    rw [hb, Bank.mem_jobFor_iff] at hk
    obtain ⟨rfl, hs⟩ : j = k ∧ r.state = .inRepair := by simpa using hk
    exact absurd (Lane.matching_eq_some_iff.2 ⟨hn, hfind, hhold, hs⟩) (hnot hi)
  obtain ⟨hwork, -⟩ := writeBackLane_keeps b j rs (s.work j.lane)
  obtain ⟨-, hrun, -⟩ := hwork.config
  rw [he, State.recordsHeld_iff]
  intro i r hr hbank
  simp only [State.setEngine_lanes, State.lanes_putWork, hwork.id, State.work_id] at hr ⊢
  split at hr
  case isFalse hi =>
    rw [if_neg hi]
    exact hkept hr hbank fun hil => absurd hil hi
  case isTrue hi =>
    subst hi
    obtain ⟨hr, hnot⟩ := writeBackLane_inBank hr hbank
    rw [if_pos rfl, hrun]
    exact hkept hr hbank fun _ => hnot

end Held

end Sys2Proof.Machine

namespace Sys2Proof.Settled

open Sys2Proof.Machine

/-- Settles O59: the engine's three rows move a record and its bank together, the record found by its id, and
no other row brings a record into a bank. -/
theorem banksHoldTheirRecords : Obligations.BanksHoldTheirRecords := by
  intro s t _ hring hqueue hrecords h hstep
  have hids : s.EachLane Lane.IdsApart := fun i =>
    Lane.RecordsOk.idsApart (hrecords i) (hring i) (hqueue i)
  obtain ⟨rest, hrow⟩ := step_engineStep hstep
  cases hrow with
  | reset _ hl =>
    intro i r hr
    rw [hl i] at hr
    cases hr
  | aside he hl => exact State.RecordsHeld.aside (s := { s with pending := rest }) h he hl
  | load => exact loadJob_recordsHeld (s := { s with pending := rest }) h
  | complete => exact completeJob_recordsHeld (s := { s with pending := rest }) h hids
  | writeBack => exact writeBackStep_recordsHeld (s := { s with pending := rest }) h hids

end Sys2Proof.Settled

/-! # The Hiss Reducer keeps its ranges

Level, floor and gain through a departure's update, and through each block and each row. Settles O49. -/

namespace Sys2Proof.Machine

/-! ### The update of a departure -/

/-- A step by a shift toward a target stays between value and target (R131, R132, R134). -/
theorem shiftStep_between (a t : Int) (k : Nat) :
    min a t ≤ a + floorShift (t - a) k ∧ a + floorShift (t - a) k ≤ max a t := by
  have hpow : (0 : Int) < 2 ^ k := by positivity
  unfold floorShift floorDiv
  rcases le_or_gt a t with h | h
  · have hlow : 0 ≤ (t - a) / 2 ^ k := Int.ediv_nonneg (by omega) hpow.le
    have hhigh : (t - a) / 2 ^ k ≤ t - a := Int.ediv_le_self _ (by omega)
    omega
  · have hlow : t - a ≤ (t - a) / 2 ^ k :=
      Int.le_ediv_of_mul_le hpow (mul_le_of_one_le_right (by omega) hpow)
    have hhigh : (t - a) / 2 ^ k < 0 := Int.ediv_neg_of_neg_of_pos (by omega) hpow
    omega

theorem followLevel_nonneg {level v : Int} (hl : 0 ≤ level) (hv : 0 ≤ v) (att rel : Nat) :
    0 ≤ followLevel level v att rel := by
  obtain ⟨hatt, -⟩ := shiftStep_between level v att
  obtain ⟨hrel, -⟩ := shiftStep_between level v rel
  unfold followLevel
  split <;> omega

/-- A rising floor starts from the old one, and a falling one stops at 1 (R132). -/
theorem riseFloor_pos {n : Int} (hn : 1 ≤ n) (m : Int) (nr : Nat) : 1 ≤ riseFloor n m nr := by
  obtain ⟨hrise, -⟩ := shiftStep_between n m nr
  unfold riseFloor
  split <;> omega

theorem smoothGain_inRange {gain target : Int} (hg : 0 ≤ gain ∧ gain ≤ 32768)
    (ht : 0 ≤ target ∧ target ≤ 32768) :
    0 ≤ smoothGain gain target ∧ smoothGain gain target ≤ 32768 := by
  have hstep := shiftStep_between gain target 3
  unfold smoothGain
  omega

/-- At full gain the two bands add up to the departing value (R134). -/
theorem restore_fullGain (lp : Int) {xd : Int} (h : In24 xd) : restore lp (xd - lp) 32768 = xd := by
  obtain ⟨hlow, hhigh⟩ := h
  unfold restore clamp24 clampTo floorDiv
  omega

/-- The ranges of the reducer of a RUNNING lane (R129, R132, R134). -/
structure HissReducer.InRange (h : HissReducer) : Prop where
  level : 0 ≤ h.level
  floor : 1 ≤ h.floor
  gain : 0 ≤ h.gain ∧ h.gain ≤ 32768

theorem HissReducer.InRange.split {h : HissReducer} (ok : h.InRange) (xd : Int) (c att rel : Nat) :
    (h.split xd c att rel).InRange :=
  ⟨followLevel_nonneg ok.level (by positivity) att rel, ok.floor, ok.gain⟩

/-- Each floor mode leaves a floor of 1 at least (R132, R133). -/
theorem HissReducer.InRange.updateFloor {h : HissReducer} (ok : h.InRange) {mode value : Int}
    (hlow : 0 ≤ mode) (hhigh : mode ≤ 2) (hv : 1 ≤ value) (rise : Nat) :
    (h.updateFloor mode value rise).1.InRange := by
  have hmode : mode = 0 ∨ mode = 1 ∨ mode = 2 := by omega
  rcases hmode with rfl | rfl | rfl
  · rw [updateFloor_track]
    split
    · exact ⟨ok.level, ok.floor, ok.gain⟩
    · exact ⟨ok.level, riseFloor_pos ok.floor _ _, ok.gain⟩
  · exact ⟨ok.level, ok.floor, ok.gain⟩
  · exact ⟨ok.level, hv, ok.gain⟩

/-- The reducer of a lane in its ranges, with the parameters and the gain table that its update reads in
theirs (R135, R164). -/
structure Lane.ReducerOk (l : Lane) : Prop where
  params : l.ParamsOk
  gains : ∀ g ∈ l.gainTable, 0 ≤ g ∧ g ≤ 32768
  hiss : l.run.hiss.InRange

theorem Lane.ReducerOk.reduceHiss {l : Lane} (ok : l.ReducerOk) (xd : Int) :
    (reduceHiss l xd).1.InRange := by
  have hgain (k : Nat) : 0 ≤ l.gainTable.getD k 0 ∧ l.gainTable.getD k 0 ≤ 32768 := by
    rw [List.getD_eq_getElem?_getD]
    cases hk : l.gainTable[k]? with
    | none => decide
    | some g => exact ok.gains g (List.mem_of_getElem? hk)
  obtain ⟨hlow, hhigh⟩ := ok.params .floorMode (by decide)
  obtain ⟨hvalue, -⟩ := ok.params .floorValue (by decide)
  obtain ⟨hlevel, hfloor, hg⟩ := (ok.hiss.split xd (l.params.get .hissSplit).toNat
    (l.params.get .hissAttack).toNat (l.params.get .hissRelease).toNat).updateFloor hlow hhigh hvalue
      (l.params.get .floorRise).toNat
  exact ⟨hlevel, hfloor, smoothGain_inRange hg (hgain _)⟩

/-! ### The blocks that leave the reducer -/

section Examination

variable (w : Work) (n : Entry) (m : Measures) (d : Demand)

@[simp] theorem openRecord_hiss (a b : Pos) (c : Causes) (p : Nat) (t : Nat × Nat) :
    (openRecord w a b c p t).lane.run.hiss = w.lane.run.hiss := by
  rcases Nat.lt_or_ge w.lane.run.queue.records.length 32 with h | h
  · rw [openRecord_eq a b c p t h]
  · rw [openRecord_full a b c p t h]

@[simp] theorem openAt_hiss (b : Bool) : (openAt w n b m d).lane.run.hiss = w.lane.run.hiss := by
  unfold openAt
  dsimp only
  split <;> simp

@[simp] theorem openRemainder_hiss (p : Pos) : (openRemainder w n p d).lane.run.hiss = w.lane.run.hiss := by
  unfold openRemainder
  split <;> simp

@[simp] theorem extendRecord_hiss (r : DefectRecord) :
    (extendRecord w r n m d).lane.run.hiss = w.lane.run.hiss := by
  have hput (det : Detector) (r : DefectRecord) :
      (Run.putRecord { w.lane.run with detector := det } r).hiss = w.lane.run.hiss := rfl
  unfold extendRecord
  dsimp only
  split
  · split <;> simp [Run.close, hput]
  · exact hput _ _

@[simp] theorem recordActions_hiss : (recordActions w n m d).lane.run.hiss = w.lane.run.hiss := by
  unfold recordActions
  split
  · split <;> simp
  · simp

@[simp] theorem closingTest_hiss (p : Pos) : (closingTest w p).lane.run.hiss = w.lane.run.hiss := by
  unfold closingTest
  split
  · split <;> rfl
  · rfl

/-- An examination leaves the reducer (R83). -/
@[simp] theorem examine_hiss : (examine w n).lane.run.hiss = w.lane.run.hiss := by
  unfold examine
  split
  · rfl
  · obtain ⟨m, c, v, det, rfl, he, -⟩ := examineEntry_eq w n
    rw [he, Work.setRun_lane, closingTest_hiss, recordActions_hiss]
    rfl

end Examination

@[simp] theorem Work.freed_hiss (w : Work) : w.freed.lane.run.hiss = w.lane.run.hiss := by
  unfold freed Run.abandon
  split
  · rw [raise_lane, Lane.raise_run, setRun_lane]
    split <;> rfl
  · rfl

/-! ### A departure -/

/-- A departure takes the reducer through one update, by the parameters and the gain table as they are
before it (R53, R130). -/
theorem depart_hiss {w : Work} {e : Entry} {es : List Entry} (h : w.lane.run.ring.window = e :: es) :
    ∃ xd, (depart w).lane.run.hiss = (reduceHiss w.lane xd).1 := by
  have hhum := (humDepart_keeps (w.passed e es) { e with departed := true }).1
  obtain ⟨-, -, hparams, -, hgain, -⟩ := hhum.config
  have hrun := humDepart_run (w.passed e es) { e with departed := true }
  refine ⟨departingValue (w.passed e es).lane { e with departed := true } (w.lane.run.recordOf e), ?_⟩
  rw [depart_eq h, departStages_eq _ _ _ rfl, retireAt_run]
  dsimp only
  rw [judge_onlyFormed _ _ _, hissDepart_eq, reduceHiss_congr hparams hgain (by rw [hrun])]
  exact congrArg Prod.fst (reduceHiss_congr rfl rfl rfl _)

/-- From w to w' a reducer in its ranges comes to one in its ranges. -/
def Work.KeepsReducer (w w' : Work) : Prop := w.lane.ReducerOk → w'.lane.ReducerOk

namespace Work.KeepsReducer

theorem refl (w : Work) : w.KeepsReducer w := fun h => h

theorem trans {a b c : Work} (h : a.KeepsReducer b) (k : b.KeepsReducer c) : a.KeepsReducer c :=
  fun ok => k (h ok)

/-- A block that keeps the configuration, and the reducer's ranges under it. -/
theorem of_keeps {w w' : Work} (hk : w.Keeps w')
    (hh : w.lane.ReducerOk → w'.lane.run.hiss.InRange) : w.KeepsReducer w' := fun ok => by
  obtain ⟨-, -, hparams, -, hgain, -⟩ := hk.config
  exact ⟨by rw [Lane.ParamsOk, hparams]; exact ok.params, by rw [hgain]; exact ok.gains, hh ok⟩

/-- A block that leaves the reducer. -/
theorem of_same {w w' : Work} (hk : w.Keeps w') (hh : w'.lane.run.hiss = w.lane.run.hiss := by rfl) :
    w.KeepsReducer w' := of_keeps hk fun ok => by rw [hh]; exact ok.hiss

theorem count (w : Work) (f : Report → Report) : w.KeepsReducer (w.count f) :=
  of_same (keeps_count w f) (by simp)

theorem setFront (w : Work) (f : FrontEnd) : w.KeepsReducer (w.setFront f) := of_same (keeps_setFront w f)

theorem setRun (w : Work) (r : Run) (h : r.hiss = w.lane.run.hiss := by rfl) :
    w.KeepsReducer (w.setRun r) := of_same (keeps_setRun w r) h

end Work.KeepsReducer

theorem depart_reducer (w : Work) : w.KeepsReducer (depart w) := by
  cases hw : w.lane.run.ring.window with
  | nil => rw [depart_of_empty hw]; exact .refl w
  | cons e es =>
    refine .of_keeps (depart_keeps w).1 fun ok => ?_
    obtain ⟨xd, hxd⟩ := depart_hiss hw
    rw [hxd]
    exact ok.reduceHiss xd

theorem departureTest_reducer (w : Work) : w.KeepsReducer (departureTest w) := fun ok =>
  departureTest_induction (P := fun v => v.lane.ReducerOk) ok fun v hv _ => depart_reducer v hv

/-! ### An entry event and an instant -/

theorem makeRoom_reducer (n : Nat) (w : Work) : w.KeepsReducer (makeRoom n w) := fun ok =>
  makeRoom_induction (P := fun v => v.lane.ReducerOk) n ok fun v hv _ => by
    have hfreed : v.KeepsReducer v.freed := by
      refine .of_same ?_ v.freed_hiss
      unfold Work.freed
      split
      · exact (keeps_setRun v _).trans (keeps_raise _ _)
      · exact .refl v
    rw [makeRoomOnce_eq]
    exact hfreed.trans (depart_reducer _) hv

theorem entryEvent_reducer (w : Work) (o : Output) : w.KeepsReducer (entryEvent w o) := by
  have hindex : w.KeepsReducer (indexOutput w o) :=
    .of_same (indexOutput_keeps w o).1 (by rw [indexOutput_lane])
  have hplace (v : Work) (e : Entry) : v.KeepsReducer (placeEntry v e) :=
    (Work.KeepsReducer.setRun v _).trans (.count _ _)
  have hexamine (v : Work) (e : Entry) : v.KeepsReducer (examine v e) :=
    .of_same (examine_keeps v e).1 (examine_hiss v e)
  exact (((hindex.trans (makeRoom_reducer _ _)).trans (hplace _ _)).trans (hexamine _ _)).trans
    (departureTest_reducer _)

theorem resampleInstant_reducer (next : PrevInstant) (splice : Bool) (w : Work) :
    w.KeepsReducer (resampleInstant next splice w) := by
  have hsplice : w.KeepsReducer (w.withSplice next.index splice) := .setRun w _
  have houtputs (p : PrevInstant) (n : Nat) : ∀ v : Work, v.KeepsReducer ((produce p next)^[n] v) := by
    induction n with
    | zero => exact .refl
    | succ n ih => exact fun v => ((Work.KeepsReducer.setRun v _).trans (entryEvent_reducer _ _)).trans (ih _)
  cases hp : w.lane.run.resampler.prev with
  | none => rw [resampleInstant_first hp]; exact hsplice.trans (.setRun _ _)
  | some p =>
    obtain ⟨n, -, hn, -⟩ := resampleInstant_outputs hp next splice
    rw [hn]
    exact (hsplice.trans (houtputs p n _)).trans (.setRun _ _)

theorem watchSignal_reducer (q : Quality) (w : Work) : w.KeepsReducer (watchSignal q w) := by
  have hraised (v : Work) (ev : StepEvent) : v.KeepsReducer ((v.raise .signalState).note ev) :=
    .of_same ((keeps_raise v _).trans (keeps_note _ _))
  have hlost (v : Work) : v.KeepsReducer (onSignalLost v) := by
    cases hr : v.lane.run.queue.openRecord with
    | none => rw [onSignalLost_none hr]; exact hraised v _
    | some r =>
      rw [onSignalLost_some hr]
      exact ((hraised v _).trans (.setRun _ _)).trans (departureTest_reducer _)
  have hfront := Work.KeepsReducer.setFront w (w.lane.front.watch q)
  unfold watchSignal
  dsimp only
  split
  · exact hfront.trans (hlost _)
  · exact hfront.trans ((hraised _ _).trans (.setRun _ _))
  · exact hfront

theorem completeInstant_reducer (x : Int) (h : Option Halves) (q : Quality) (es : List EdgeKind)
    (w : Work) : w.KeepsReducer (completeInstant x h q es w) := by
  have htracked (v : Work) (k : Pos) (n : Nat) (e : Int) :
      v.KeepsReducer ((trackInstant k n v).restep e) :=
    .of_same ((trackInstant_keeps k n v).trans (restep_keeps _ e))
      (by rw [(trackStage_onlyTracked k n e v).run])
  exact (((Work.KeepsReducer.setFront w _).trans (watchSignal_reducer q _)).trans
    (htracked _ _ _ _)).trans (resampleInstant_reducer _ _ _)

theorem completeSensor_reducer (x : Int) (h : Option Halves) (q : Quality) (w : Work) :
    w.KeepsReducer (completeSensor x h q w) :=
  (Work.KeepsReducer.setFront w _).trans (completeInstant_reducer _ _ _ _ _)

theorem takeWord_reducer (f : SensorFields) (w : Work) : w.KeepsReducer (takeWord f w) := by
  unfold takeWord
  split
  · split
    · unfold takeDual
      split
      · exact .setFront w _
      · exact (Work.KeepsReducer.setFront w _).trans (.count _ _)
      · exact (Work.KeepsReducer.setFront w _).trans (completeSensor_reducer _ _ _ _)
      · exact .count w _
    · exact completeSensor_reducer _ _ _ w
  · exact .refl w

theorem generateInstant_reducer (w : Work) : w.KeepsReducer (generateInstant w) := by
  unfold generateInstant
  split
  · exact (Work.KeepsReducer.setRun w _).trans (completeInstant_reducer _ _ _ _ _)
  · exact .refl w

theorem writeBackLane_reducer (b : BankId) (j : Job) (rs : List Int) (w : Work) :
    w.KeepsReducer (writeBackLane b j rs w) := by
  unfold writeBackLane
  split
  · exact (Work.KeepsReducer.setRun w _).trans (departureTest_reducer _)
  · exact .refl w

/-! ### The reducer through every row -/

/-- A configuration in its ranges, and a RUNNING lane's reducer in its own. -/
structure Lane.HissHeld (l : Lane) : Prop where
  configured : l.Configured
  hiss : l.state = .running → l.run.hiss.InRange

theorem Lane.hissOk_iff {l : Lane} : l.HissOk ↔ (l.state = .running → l.run.hiss.InRange) :=
  forall_congr' fun _ => ⟨fun ⟨hl, hf, hg⟩ => ⟨hl, hf, hg⟩, fun ⟨hl, hf, hg⟩ => ⟨hl, hf, hg⟩⟩

/-- An event of a lane's blocks leaves the lane RUNNING or not, and keeps a RUNNING lane's reducer. -/
theorem Lane.HissHeld.event {w v : Work} (h : w.lane.HissHeld) (hk : w.Keeps v) (hv : w.KeepsReducer v)
    (hr : v.lane.state = .running) : v.lane.run.hiss.InRange := by
  obtain ⟨⟨hparams, -, -, -, -, -, hgains⟩, hhiss⟩ := h
  exact (hv ⟨hparams, hgains, hhiss (hk.state ▸ hr)⟩).hiss

/-- START_LANE sets level 0, the floor to FLOOR_VALUE and full gain (R129). -/
theorem Lane.start_hiss {l : Lane} (h : l.ParamsOk) : l.start.run.hiss.InRange :=
  ⟨le_rfl, (h .floorValue (by decide)).1, Int.le_of_lt (by decide : (0 : Int) < 32768), le_rfl⟩

/-- FLOOR_VALUE written on a RUNNING lane becomes its floor; no other parameter reaches the reducer (R133,
R164). -/
theorem Lane.writeParam_hiss {l : Lane} (h : l.run.hiss.InRange) (p : Param) (v : Int) :
    (l.writeParam p v).run.hiss.InRange := by
  cases p with
  | floorValue =>
    unfold writeParam consequences
    dsimp only
    split
    · refine ⟨h.level, ?_, h.gain⟩
      rw [Params.get_put_same]
      exact (Param.floorValue.applied_inRange v).1
    · exact h
  | _ => exact h

/-- No row takes the reducer of a RUNNING lane out of its ranges: START_LANE and FLOOR_VALUE set it within
them, and of the other rows only departures reach it. -/
theorem Work.ByRow.hissInRange {w v : Work} (h : w.ByRow v) (ok : w.lane.HissHeld)
    (hr : v.lane.state = .running) : v.lane.run.hiss.InRange := by
  have stopped : (stopEffects w).lane.state = .stopped := by
    obtain ⟨a, b, latch, hl, -⟩ := stopEffects_lane w
    rw [hl]
    rfl
  cases h with
  | unchanged => exact ok.hiss hr
  | enable _ | disable _ => cases hr
  | start _ => exact Lane.start_hiss ok.configured.params
  | stop _ => rw [stopped] at hr; cases hr
  | reset =>
    by_cases hs : w.lane.state = .running
    · rw [resetLaneEffects_running hs] at hr
      exact absurd (hr.symm.trans stopped) (by decide)
    · rw [resetLaneEffects_notRunning hs] at hr
      exact absurd hr hs
  | toDefaults hs => exact absurd hr hs
  | setParam p v _ =>
    obtain ⟨hstate, -⟩ := w.lane.writeParam_sameTracking p v
    exact Lane.writeParam_hiss (ok.hiss (hstate.symm.trans hr)) p v
  | writeTable t first vs _ _ => cases t <;> exact ok.hiss hr
  | setMask _ | load _ _ _ _ | startRepair _ _ _ _ _ => exact ok.hiss hr
  | loadSegment i _ _ _ | unload i _ _ | requestEnd i _ _ _ _ _ | collect i _ _ _ _ =>
    cases i <;> exact ok.hiss hr
  | word f => exact ok.event (takeWord_keeps f w) (takeWord_reducer f w) hr
  | edge k =>
    refine ok.event (takeEdge_keeps k w) (.of_same (takeEdge_keeps k w) ?_) hr
    unfold takeEdge
    split <;> rfl
  | generate => exact ok.event (generateInstant_keeps w) (generateInstant_reducer w) hr
  | notice id =>
    obtain ⟨hstate, -⟩ := formLaneNotice_sameTracking id w
    have hsame : (formLaneNotice id w).lane.run.hiss = w.lane.run.hiss := by
      unfold formLaneNotice
      split <;> rfl
    rw [hsame]
    exact ok.hiss (hstate.symm.trans hr)
  | writeBack b j rs => exact ok.event (writeBackLane_keeps b j rs w).1 (writeBackLane_reducer b j rs w) hr

end Sys2Proof.Machine

namespace Sys2Proof.Settled

open Sys2Proof.Machine

/-- Settles O49: the configuration keeps its ranges (O40's walk), and under it each update of a departure
moves level and gain between themselves and targets in their ranges, and the floor to 1 at least. -/
theorem hissGainAndFloorStayInRange : Obligations.HissGainAndFloorStayInRange := by
  refine ⟨fun lp xd h => restore_fullGain lp h, fun s t hparams htables hhiss hstep => ?_⟩
  have ok : t.EachLane Lane.HissHeld :=
    step_keeps_eachLane ⟨⟨Lane.reset_paramsOk, Lane.reset_tablesOk⟩, fun h => absurd h (by decide)⟩
      (fun _ _ hrow held => ⟨hrow.configured held.configured, hrow.hissInRange held⟩)
      (fun i => ⟨⟨hparams i, htables i⟩, Lane.hissOk_iff.1 (hhiss i)⟩) hstep
  exact ⟨fun i => (ok i).configured.params, fun i => (ok i).configured.tables,
    fun i => Lane.hissOk_iff.2 (ok i).hiss⟩

end Sys2Proof.Settled

/-! # Samples and blocks

The dither generator, the conversion of a sample, the bytes of a stream block, and what the former makes of
a departure. Settles O50. -/

namespace Sys2Proof.Machine

/-! ### The dither generator -/

/-- A step doubles the register modulo 2^24 and adds the feedback (R139). -/
theorem ditherStep_toNat (s : BitVec 24) : (ditherStep s).toNat =
    2 * s.toNat % 16777216 +
      (s.getLsbD 23 ^^ s.getLsbD 22 ^^ s.getLsbD 21 ^^ s.getLsbD 16).toNat := by
  have hbit := Bool.toNat_le (s.getLsbD 23 ^^ s.getLsbD 22 ^^ s.getLsbD 21 ^^ s.getLsbD 16)
  simp only [ditherStep, BitVec.toNat_add, BitVec.toNat_shiftLeft, BitVec.toNat_ofNat, Nat.shiftLeft_eq]
  omega

/-- The one register but 0 that doubles to 0 is 2^23, whose feedback is 1 (R139). -/
theorem ditherStep_ne_zero {s : BitVec 24} (h : s ≠ 0) : ditherStep s ≠ 0 := fun hz => by
  have hstep := ditherStep_toNat s
  have hpos : s.toNat ≠ 0 := fun h0 => h (BitVec.eq_of_toNat_eq h0)
  have hlt := s.isLt
  have hzero : (ditherStep s).toNat = 0 := by rw [hz]; rfl
  have htop : s.toNat = 8388608 := by omega
  obtain rfl : s = 0x800000#24 := BitVec.eq_of_toNat_eq htop
  exact absurd hz (by decide)

theorem ditherSteps_eq_iterate (n : Nat) (s : BitVec 24) : ditherSteps n s = ditherStep^[n] s := by
  induction n generalizing s with
  | zero => rfl
  | succ n ih => exact ih (ditherStep s)

theorem ditherSteps_ne_zero (n : Nat) {s : BitVec 24} (h : s ≠ 0) : ditherSteps n s ≠ 0 := by
  induction n generalizing s with
  | zero => exact h
  | succ n ih => exact ih (ditherStep_ne_zero h)

theorem ditherDraw_ne_zero {s : BitVec 24} (h : s ≠ 0) : ditherDraw s ≠ 0 := ditherSteps_ne_zero 8 h

theorem ditherAfter_ne_zero (d : Descriptor) {s : BitVec 24} (h : s ≠ 0) : ditherAfter d s ≠ 0 := by
  unfold ditherAfter
  split
  · exact ditherDraw_ne_zero (ditherDraw_ne_zero h)
  · exact h

theorem drawn_inByte (s : BitVec 24) : 0 ≤ drawn s ∧ drawn s ≤ 255 := by
  unfold drawn
  omega

theorem ditherValue_inRange (d : Descriptor) (s : BitVec 24) :
    -255 ≤ ditherValue d s ∧ ditherValue d s ≤ 255 := by
  have hfirst := drawn_inByte (ditherDraw s)
  have hsecond := drawn_inByte (ditherDraw (ditherDraw s))
  unfold ditherValue
  split <;> omega

theorem Descriptor.draws_eq (d : Descriptor) : d.draws = decide (d.word = .bits16 ∧ d.dither = true) := by
  simp [draws]

/-! ### The value of a sample -/

theorem sourceValue_eq (k : OutputKind) (x y : Int) :
    sourceValue k x y = if k = .restored then y else if k = .original then x
      else max (-8388608) (min 8388607 (x - y)) := by
  cases k <;> rfl

theorem convert_eq (word : WordLength) (val dd : Int) :
    convert word val dd = if word = .bits24 then val
      else max (-32768) (min 32767 ((val + dd + 128) / 256)) := by
  cases word <;> rfl

theorem convert_bits16_inRange (val dd : Int) :
    -32768 ≤ convert .bits16 val dd ∧ convert .bits16 val dd ≤ 32767 := by
  rw [convert_eq, if_neg (by decide)]
  omega

/-! ### The bytes of a block -/

theorem sampleBytes_eq (word : WordLength) :
    sampleBytes word = beInt (if word = .bits24 then 3 else 2) := by
  cases word <;> rfl

theorem OutputKind.code_eq (k : OutputKind) :
    k.code = if k = .restored then 0 else if k = .original then 1 else 2 := by
  cases k <;> rfl

/-- A first position that its four bytes can hold is spelled as it is. -/
theorem firstPosition_toNat {p : Nat} (h : p ≤ 4294967295) : (firstPosition p).toNat = p := by
  rw [firstPosition, if_pos (show p ≤ Config.counterMax from h), BitVec.toNat_ofNat]
  exact Nat.mod_eq_of_lt (by omega)

/-! ### The sample of a departure -/

/-- The report after the sample of entry e: one sample more, and one LOST output more when e is LOST (R153). -/
def Report.sampled (e : Entry) (r : Report) : Report :=
  { r with
    samples := bump r.samples
    lostOutput := if e.lost then bump r.lostOutput else r.lostOutput }

theorem Former.append_eq (f : Former) (v : Int) : f.append v =
    { nextPos := f.nextPos + 1
      first := if f.block = [] then f.nextPos else f.first
      block := f.block ++ [v] } := by
  simp only [append, List.isEmpty_iff]

/-- The former after the offer of a full block: the next block begins (R140). -/
def Former.offered (f : Former) (size : Int) : Former :=
  if size ≤ (f.block.length : Int) then { f with block := [] } else f

/-- The sample that a RUNNING segment of descriptor d takes of a departure (R137, R138). -/
def Work.sampleOf (w : Work) (d : Descriptor) (e : Entry) (y : Int) : Int :=
  convert d.word (sourceValue d.output e.x y) (ditherValue d w.lane.run.dither)

theorem Lane.runningDescriptor_of_none {l : Lane} (h : l.runningSlot = none) :
    l.runningDescriptor = none := by
  simp only [runningDescriptor, h]

/-- Without a RUNNING segment a departure takes no sample (R137). -/
theorem outputStep_of_none {w : Work} (h : w.lane.runningSlot = none) (e : Entry) (y : Int) :
    outputStep w e y = w := by
  simp only [outputStep, Lane.runningDescriptor_of_none h]

/-- The stages of a sample: the sample appended and counted, then a full block offered from an emptied
former (R137, R140). -/
theorem outputSample_eq (w : Work) (d : Descriptor) (e : Entry) (y : Int) {f : Former} {v : Work}
    (hf : f = w.lane.run.former.append (w.sampleOf d e y))
    (hv : v = (w.setRun { w.lane.run with former := f, dither := ditherAfter d w.lane.run.dither }).count
      (Report.sampled e)) :
    outputSample w d e y =
      if v.p .blockSize ≤ (f.block.length : Int) then
        offerBlock (v.setRun { v.lane.run with former := { f with block := [] } }) d f.first f.block
      else v := by
  subst hv hf
  rfl

section Sample

variable {w : Work} {i : SlotId} {d : Descriptor} {r : Report} {req : Bool} {m : Nat}
  (hi : w.lane.runningSlot = some i) (hs : w.lane.slot i = .running d r req m)
include hi hs

theorem Lane.runningDescriptor_of_running : w.lane.runningDescriptor = some d := by
  simp only [runningDescriptor, hi, hs]

/-- A RUNNING segment takes the sample into its former and its report, and offers the block when it is full
(R137, R140). -/
theorem outputStep_running (e : Entry) (y : Int) {f : Former} {w' : Work}
    (hf : f = w.lane.run.former.append (w.sampleOf d e y))
    (hw : w' = { w with
      lane := { w.lane.setSlot i (.running d (r.sampled e) req m) with
        run := { w.lane.run with
          dither := ditherAfter d w.lane.run.dither, former := f.offered (w.p .blockSize) } } }) :
    outputStep w e y =
      if w.p .blockSize ≤ (f.block.length : Int) then offerBlock w' d f.first f.block else w' := by
  have hcounted (run : Run) : (w.setRun run).count (Report.sampled e) =
      { w with lane := { w.lane.setSlot i (.running d (r.sampled e) req m) with run := run } } := by
    rw [Work.count, Work.setRun_lane, count_withRun, Lane.count_running hi hs]
    rfl
  have hsize (run : Run) : ((w.setRun run).count (Report.sampled e)).p .blockSize = w.p .blockSize := by
    simp [Work.p]
  have htaken : outputStep w e y = outputSample w d e y := by
    simp only [outputStep, Lane.runningDescriptor_of_running hi hs]
  rw [htaken, outputSample_eq w d e y hf rfl, hsize, hcounted, hw]
  by_cases hfull : w.p .blockSize ≤ (f.block.length : Int)
  · rw [if_pos hfull, if_pos hfull, Former.offered, if_pos hfull]
    rfl
  · rw [if_neg hfull, if_neg hfull, Former.offered, if_neg hfull]

end Sample

end Sys2Proof.Machine

namespace Sys2Proof.Settled

open Sys2Proof.Machine

/-- Settles O50: the register reaches 0 only from 0, as the one other value that doubles to 0 has feedback
1; the sample and the block of a departure are `outputStep_running`. -/
theorem outputSamplesAndBlocks : Obligations.OutputSamplesAndBlocks := by
  refine ⟨fun s h => ⟨ditherStep_ne_zero h, ditherDraw_ne_zero h, fun d => ditherAfter_ne_zero d h⟩,
    ditherValue_inRange, fun val dd h => ⟨h, convert_bits16_inRange val dd⟩,
    fun s => ⟨ditherStep_toNat s, ditherSteps_eq_iterate 8 s⟩, fun l d first samples h => ?_,
    fun w e y h => outputStep_of_none h e y, ?_⟩
  · rw [streamBlock, firstPosition_toNat h, OutputKind.code_eq, sampleBytes_eq]
    rfl
  · rintro w w' e y val dd v i d r req m draws s s₁ s₂ f hi hs rfl rfl rfl rfl rfl rfl rfl hf rfl
    refine outputStep_running hi hs e y ?_ ?_
    · rw [hf, Former.append_eq, Work.sampleOf, convert_eq, sourceValue_eq, ditherValue, d.draws_eq]
      rfl
    · rw [ditherAfter, d.draws_eq]
      rfl

end Sys2Proof.Settled

/-! # The segment commands

The slot that a load goes into and the descriptor it stores, and what END_SEGMENT and COLLECT_REPORT make
of the slot they name. Settles O22 and O23. -/

namespace Sys2Proof.Machine

/-! ### Fields read back -/

theorem ofBe_concat (bs : List Byte) (b : Byte) : ofBe (bs ++ [b]) = 256 * ofBe bs + b.toNat := by
  simp [ofBe]

/-- A field that can hold its number is read back as that number (R175). -/
theorem ofBe_be (n : Nat) {v : Nat} (h : v < 256 ^ n) : ofBe (be n v) = v := by
  induction n generalizing v with
  | zero =>
    have hv : v = 0 := by simpa using h
    rw [hv]
    rfl
  | succ n ih =>
    have hhigh : v / 256 < 256 ^ n := Nat.div_lt_of_lt_mul (by rwa [← Nat.pow_succ'])
    rw [be, ofBe_concat, ih hhigh, BitVec.toNat_ofNat]
    exact Nat.div_add_mod v 256

/-! ### Codes of a descriptor -/

/-- The nearest of the codes 0 to top (R145). -/
def nearestCode (top : Nat) (c : Byte) : Byte := if c.toNat ≤ top then c else BitVec.ofNat 8 top

theorem nearestCode_eq_self {top : Nat} {c : Byte} : nearestCode top c = c ↔ c.toNat ≤ top := by
  unfold nearestCode
  split
  case isTrue h => exact iff_of_true rfl h
  case isFalse h =>
    refine iff_of_false (fun heq => h ?_) h
    rw [← heq, BitVec.toNat_ofNat]
    exact Nat.mod_le _ _

/-- A code of two values that is not 0 is replaced by 1, if it is not 1. -/
theorem nearestCode_one (c : Byte) : nearestCode 1 c = if c = 0 then 0 else 1 := by
  by_cases h0 : c = 0
  · subst h0; rfl
  · rw [if_neg h0, nearestCode]
    split
    · bv_omega
    · rfl

/-- A code of three values that is neither 0 nor 1 is replaced by 2, if it is not 2. -/
theorem nearestCode_two (c : Byte) : nearestCode 2 c = if c = 0 then 0 else if c = 1 then 1 else 2 := by
  by_cases h0 : c = 0
  · subst h0; rfl
  · by_cases h1 : c = 1
    · subst h1; rfl
    · rw [if_neg h0, if_neg h1, nearestCode]
      split
      · bv_omega
      · rfl

theorem StartCondition.code_ofCode (c : Byte) : (StartCondition.ofCode c).code = nearestCode 2 c := by
  rw [nearestCode_two, StartCondition.ofCode]
  split
  · rfl
  · split <;> rfl

theorem OutputKind.code_ofCode (c : Byte) : (OutputKind.ofCode c).code = nearestCode 2 c := by
  rw [nearestCode_two, OutputKind.ofCode]
  split
  · rfl
  · split <;> rfl

theorem boolByte_ne_zero (c : Byte) : boolByte (decide (c ≠ 0)) = nearestCode 1 c := by
  rw [nearestCode_one, boolByte]
  by_cases h : c = 0 <;> simp [h]

/-! ### The descriptor of a payload -/

/-- The bytes of a descriptor's fields, in their order (Formats, Descriptor). -/
def descriptorBytes (id len : Nat) (start output word dither reports : Byte) : List Byte :=
  be 2 id ++ [start] ++ be 3 len ++ [output, word, dither, reports]

section Payload

variable {id len : Nat} (hid : id < 65536) (hlen : len < 16777216)
  (start output word dither reports : Byte)

include hid hlen in
/-- The descriptor that a payload stores (R145). -/
theorem Descriptor.ofPayload_bytes :
    Descriptor.ofPayload (descriptorBytes id len start output word dither reports) =
      { segId := BitVec.ofNat 16 id
        start := .ofCode start
        length := len
        output := .ofCode output
        word := if word = 0 then .bits16 else .bits24
        dither := decide (dither ≠ 0)
        reports := decide (reports ≠ 0) } := by
  have hsegId : ofBe (field (descriptorBytes id len start output word dither reports) 0 2) = id :=
    ofBe_be 2 hid
  have hlength : ofBe (field (descriptorBytes id len start output word dither reports) 3 3) = len :=
    ofBe_be 3 hlen
  have hflag (c : Byte) : (c != 0) = decide (c ≠ 0) := decide_not.symm
  rw [ofPayload, hsegId, hlength, hflag, hflag]
  rfl

include hid hlen in
/-- The applied descriptor is the payload with each code replaced by its nearest listed one (R145). -/
theorem Descriptor.encode_ofPayload :
    (Descriptor.ofPayload (descriptorBytes id len start output word dither reports)).encode =
      descriptorBytes id len (nearestCode 2 start) (nearestCode 2 output) (nearestCode 1 word)
        (nearestCode 1 dither) (nearestCode 1 reports) := by
  have hsegId : (BitVec.ofNat 16 id).toNat = id := by
    rw [BitVec.toNat_ofNat]
    exact Nat.mod_eq_of_lt hid
  have hword : (if (if word = 0 then WordLength.bits16 else .bits24) = .bits24 then (1 : Byte) else 0) =
      nearestCode 1 word := by
    rw [nearestCode_one]
    by_cases h : word = 0 <;> simp [h]
  rw [ofPayload_bytes hid hlen, encode, descriptorBytes]
  simp only [hsegId, hword, StartCondition.code_ofCode, OutputKind.code_ofCode, boolByte_ne_zero]

/-- Applied codes differ from the payload's when one of these is not listed. -/
theorem descriptorBytes_nearest_eq_self :
    descriptorBytes id len (nearestCode 2 start) (nearestCode 2 output) (nearestCode 1 word)
        (nearestCode 1 dither) (nearestCode 1 reports) =
      descriptorBytes id len start output word dither reports ↔
    start.toNat ≤ 2 ∧ output.toNat ≤ 2 ∧ word.toNat ≤ 1 ∧ dither.toNat ≤ 1 ∧
      reports.toNat ≤ 1 := by
  simp [descriptorBytes, nearestCode_eq_self]

end Payload

theorem okOrClamped_code (changed : Bool) : (okOrClamped changed).code = if changed then 1 else 0 := by
  cases changed <;> rfl

/-! ### LOAD_SEGMENT -/

theorem Slot.isEmpty_iff {x : Slot} : x.isEmpty = true ↔ x = .empty := by
  cases x <;> simp [Slot.isEmpty]

/-- The slot that a load finds: A if it is EMPTY, otherwise B if that is EMPTY (R145). -/
theorem Lane.slotToLoad_eq (l : Lane) :
    l.slotToLoad = if l.slotA = .empty then some .a else if l.slotB = .empty then some .b else none := by
  simp only [slotToLoad, Slot.isEmpty_iff]

section Loading

variable {w : Work} (hw : w.lane.state ≠ .disabled)
include hw

/-- A load that finds an EMPTY slot (R145). -/
theorem loadSegmentBody_loaded {i : SlotId} {payload : List Byte} {d : Descriptor}
    (hi : w.lane.slotToLoad = some i) (hd : Descriptor.ofPayload payload = d) :
    loadSegmentBody payload w =
      (w.setLane (w.lane.withSlot i (.loaded d) (w.lane.loadOrder ++ [i])),
        ⟨okOrClamped (decide (d.encode ≠ payload)), i.code :: d.encode⟩) := by
  rw [loadSegmentBody, if_neg hw]
  simp only [hi, hd, Lane.setSlot_loadOrder, Lane.withSlot]

theorem loadSegmentBody_noSlot (hi : w.lane.slotToLoad = none) (payload : List Byte) :
    loadSegmentBody payload w = (w, refuse .noSlot) := by
  rw [loadSegmentBody, if_neg hw]
  simp only [hi]

end Loading

/-! ### END_SEGMENT and COLLECT_REPORT -/

theorem slotOf_code (i : SlotId) : slotOf i.code = some i := by
  cases i <;> rfl

/-- Only the codes 0 and 1 name a slot. -/
theorem slotOf_eq_none {b : Byte} (h : 1 < b.toNat) : slotOf b = none := by
  have h0 : b ≠ 0 := by rintro rfl; exact absurd h (by decide)
  have h1 : b ≠ 1 := by rintro rfl; exact absurd h (by decide)
  rw [slotOf, if_neg h0, if_neg h1]

section NamedSlot

variable {w : Work} {i : SlotId} {payload : List Byte} (hp : payload = [i.code])
include hp

theorem endSegmentBody_running {d : Descriptor} {r : Report} {q : Bool} {m : Nat}
    (h : w.lane.slot i = .running d r q m) :
    endSegmentBody payload w = (w.setLane (w.lane.setSlot i (.running d r true m)), ⟨.ok, []⟩) := by
  simp only [endSegmentBody, hp, List.getD_cons_zero, slotOf_code, h]

theorem endSegmentBody_loaded {d : Descriptor} (h : w.lane.slot i = .loaded d) :
    endSegmentBody payload w =
      (w.setLane (w.lane.withSlot i .empty (w.lane.loadOrder.filter fun j => decide (j ≠ i))),
        ⟨.ok, []⟩) := by
  simp only [endSegmentBody, hp, List.getD_cons_zero, slotOf_code, h, Lane.setSlot_loadOrder,
    Lane.withSlot]

theorem endSegmentBody_notReady
    (h : w.lane.slot i = .empty ∨ ∃ d r e, w.lane.slot i = .finished d r e) :
    endSegmentBody payload w = (w, refuse .notReady) := by
  rcases h with h | ⟨d, r, e, h⟩ <;>
    simp only [endSegmentBody, hp, List.getD_cons_zero, slotOf_code, h]

theorem collectReportBody_finished {d : Descriptor} {r : Report} {e : EndReason}
    (h : w.lane.slot i = .finished d r e) :
    collectReportBody payload w = (w.setLane (w.lane.setSlot i .empty), ⟨.ok, reportBytes i d r e⟩) := by
  simp only [collectReportBody, hp, List.getD_cons_zero, slotOf_code, h]

theorem collectReportBody_notReady (h : ∀ d r e, w.lane.slot i ≠ .finished d r e) :
    collectReportBody payload w = (w, refuse .notReady) := by
  simp only [collectReportBody, hp, List.getD_cons_zero, slotOf_code]
  cases hs : w.lane.slot i with
  | empty | loaded _ | running _ _ _ _ => rfl
  | finished d r e => exact absurd hs (h d r e)

end NamedSlot

/-- A slot code other than A or B is refused by both commands (R150, R152). -/
theorem slotCommand_badRange {b : Byte} {payload : List Byte} (h : 1 < b.toNat) (hp : payload = [b])
    (w : Work) :
    endSegmentBody payload w = (w, refuse .badRange) ∧
      collectReportBody payload w = (w, refuse .badRange) := by
  constructor
  · simp only [endSegmentBody, hp, List.getD_cons_zero, slotOf_eq_none h]
  · simp only [collectReportBody, hp, List.getD_cons_zero, slotOf_eq_none h]

end Sys2Proof.Machine

namespace Sys2Proof.Settled

open Sys2Proof.Machine

/-- Settles O22, by the slot that the load finds; the applied descriptor is
`Descriptor.encode_ofPayload`. -/
theorem loadSegmentStoresDescriptor : Obligations.LoadSegmentStoresDescriptor := by
  intro c s l id len start output word dither reports d applied status ht hl hid hlen hp hd ha hs
  have hbytes : c.payload = descriptorBytes id len start output word dither reports := hp
  have hn : (c.payload.length == 10) = true := by rw [hbytes]; rfl
  have hstored : Descriptor.ofPayload c.payload = d := by
    rw [hbytes, Descriptor.ofPayload_bytes hid hlen, hd]
    rfl
  have happlied : d.encode = applied := by
    rw [← hstored, hbytes, Descriptor.encode_ofPayload hid hlen, ha]
    rfl
  have hstatus : (okOrClamped (decide (d.encode ≠ c.payload))).code = status := by
    have hkept := descriptorBytes_nearest_eq_self (id := id) (len := len) start output word dither reports
    rw [← Descriptor.encode_ofPayload hid hlen, ← hbytes, hstored] at hkept
    rw [okOrClamped_code, hs, ← ite_not]
    simp only [decide_eq_true_eq, ne_eq, not_not, hkept]
  have loads (i : SlotId) (hstate : s.lanes[l].state ≠ .disabled) (hi : s.lanes[l].slotToLoad = some i) :
      exec (.loadSegment c) s = .next
        ((s.withLane l (s.lanes[l].withSlot i (.loaded d) (s.lanes[l].loadOrder ++ [i]))).answered
          0x30 c status (i.code :: applied)) := by
    rw [← hstatus, ← happlied]
    exact congrArg Host.Outcome.next
      (takeLane_setLane _ ht hl hn (loadSegmentBody_loaded (w := s.work l) hstate hi hstored))
  refine ⟨fun hstate hA => loads .a hstate ?_, fun hstate hA hB => loads .b hstate ?_,
    fun hstate hA hB => congrArg Host.Outcome.next (takeLane_unchanged .noSlot ht hl hn
      (loadSegmentBody_noSlot (w := s.work l) hstate ?_ _)),
    fun hstate => congrArg Host.Outcome.next (takeLane_unchanged .wrongState ht hl hn (if_pos hstate))⟩
  · rw [Lane.slotToLoad_eq, if_pos hA]
  · rw [Lane.slotToLoad_eq, if_neg hA, if_pos hB]
  · rw [State.work_lane, Lane.slotToLoad_eq, if_neg hA, if_neg hB]

/-- Settles O23, by the state of the slot that the payload names. -/
theorem endAndCollectSegments : Obligations.EndAndCollectSegments := by
  intro c s l hl
  have one {b : Byte} (hp : c.payload = [b]) : (c.payload.length == 1) = true := by rw [hp]; rfl
  refine ⟨fun i hp => ⟨fun ht => ⟨fun d r q m h => ?_, fun d h => ?_, fun h => ?_⟩,
    fun ht => ⟨fun d r e h => ?_, fun h => ?_⟩⟩, fun b hb hp => ?_⟩
  · exact congrArg Host.Outcome.next (takeLane_setLane .ok ht hl (one hp) (endSegmentBody_running hp h))
  · exact congrArg Host.Outcome.next (takeLane_setLane .ok ht hl (one hp) (endSegmentBody_loaded hp h))
  · exact congrArg Host.Outcome.next
      (takeLane_unchanged .notReady ht hl (one hp) (endSegmentBody_notReady hp h))
  · exact congrArg Host.Outcome.next
      (takeLane_setLane .ok ht hl (one hp) (collectReportBody_finished hp h))
  · exact congrArg Host.Outcome.next
      (takeLane_unchanged .notReady ht hl (one hp) (collectReportBody_notReady hp h))
  · obtain ⟨hend, hcollect⟩ := slotCommand_badRange hb hp (s.work l)
    exact ⟨fun ht => congrArg Host.Outcome.next (takeLane_unchanged .badRange ht hl (one hp) hend),
      fun ht => congrArg Host.Outcome.next (takeLane_unchanged .badRange ht hl (one hp) hcollect)⟩

end Sys2Proof.Settled

/-! # Segments start, end and hand over

The end test and the start test of a departure as equations, and a departure whose mark ends one segment
and starts the other. Settles O52. -/

namespace Sys2Proof.Machine

/-! ### The RUNNING slot, told from the slots -/

theorem Lane.runningSlot_of_none {l : Lane} (h : ∀ i, (l.slot i).isRunning = false) :
    l.runningSlot = none := by
  have ha : l.slotA.isRunning = false := h .a
  have hb : l.slotB.isRunning = false := h .b
  simp [runningSlot, ha, hb]

/-- A slot that is RUNNING while the other is not is the running slot. -/
theorem Lane.runningSlot_of_only {l : Lane} {i j : SlotId} (hij : i ≠ j)
    (hi : (l.slot i).isRunning = true) (hj : (l.slot j).isRunning = false) : l.runningSlot = some i := by
  refine runningSlot_eq_some.2 ⟨hi, ?_⟩
  rintro rfl
  cases j with
  | a => exact hj
  | b => exact absurd rfl hij

/-- Of two slots, one that is not the first is the second. -/
theorem SlotId.eq_or_eq {i j : SlotId} (hij : i ≠ j) (k : SlotId) : k = i ∨ k = j := by
  cases i <;> cases j <;> cases k <;> simp at hij ⊢

/-! ### A block offered, and a sample taken -/

/-- An offer for the running segment changes the block counts of its report and the latch, and of the lane
nothing else (R142). -/
theorem offerBlock_running {w : Work} {i : SlotId} {d : Descriptor} {r : Report} {q : Bool} {m : Nat}
    (hi : w.lane.runningSlot = some i) (hs : w.lane.slot i = .running d r q m) (d' : Descriptor)
    (first : Nat) (vs : List Int) :
    ∃ (r' : Report) (latch : BitVec 8),
      (offerBlock w d' first vs).lane = { w.lane.setSlot i (.running d r' q m) with latch := latch } ∧
      r' = { r with blocksSent := r'.blocksSent, blocksDropped := r'.blocksDropped } := by
  rcases Nat.lt_or_ge 65536
    (usedBytes w.outbound + ((streamBlock w.id d' first vs).payload.length + 7) + 4096) with hfull | hroom
  · rw [offerBlock_dropped hfull]
    refine ⟨{ r with blocksDropped := min (r.blocksDropped + 1) 4294967295 },
      w.lane.latch ||| (Condition.streamDrop.bit &&& w.lane.mask), ?_, rfl⟩
    rw [Work.raise_lane, Work.count_lane, Lane.count_running hi hs]
    cases i <;> rfl
  · rw [offerBlock_sent hroom]
    refine ⟨{ r with blocksSent := min (r.blocksSent + 1) 4294967295 }, w.lane.latch, ?_, rfl⟩
    rw [Work.count_lane, Work.enqueue_lane, Lane.count_running hi hs]
    cases i <;> rfl

theorem offerBlock_trace (w : Work) (d : Descriptor) (first : Nat) (vs : List Int) :
    (offerBlock w d first vs).trace = w.trace := by
  unfold offerBlock
  dsimp only
  split <;> rfl

/-- The lane after a sample of the running segment: the sample counted and the former one position further,
whether or not a block is offered (R137, R140). -/
theorem outputStep_running_lane {w : Work} {i : SlotId} {d : Descriptor} {r : Report} {req : Bool}
    {m : Nat} (hi : w.lane.runningSlot = some i) (hs : w.lane.slot i = .running d r req m) (e : Entry)
    (y : Int) :
    ∃ (r' : Report) (latch : BitVec 8) (run : Run),
      (outputStep w e y).lane =
        { w.lane.setSlot i (.running d r' req m) with latch := latch, run := run } ∧
      r' = { r.sampled e with blocksSent := r'.blocksSent, blocksDropped := r'.blocksDropped } ∧
      run.former.nextPos = w.lane.run.former.nextPos + 1 := by
  obtain ⟨f, hf⟩ : ∃ f, f = w.lane.run.former.append (w.sampleOf d e y) := ⟨_, rfl⟩
  obtain ⟨run, hrun⟩ : ∃ run : Run, run = { w.lane.run with
    dither := ditherAfter d w.lane.run.dither, former := f.offered (w.p .blockSize) } := ⟨_, rfl⟩
  have hnext : run.former.nextPos = w.lane.run.former.nextPos + 1 := by
    rw [hrun, hf]
    unfold Former.offered
    split <;> rfl
  obtain ⟨w', hw⟩ : ∃ w' : Work, w' = { w with
    lane := { w.lane.setSlot i (.running d (r.sampled e) req m) with run := run } } := ⟨_, rfl⟩
  have hi' : w'.lane.runningSlot = some i := by
    rw [hw]
    exact Lane.runningSlot_setSlot hi rfl
  have hs' : w'.lane.slot i = .running d (r.sampled e) req m := by
    rw [hw]
    cases i <;> rfl
  rw [outputStep_running hi hs e y hf (hw.trans (by rw [hrun]))]
  split
  case isTrue =>
    obtain ⟨r', latch, hlane, hcounts⟩ := offerBlock_running hi' hs' d f.first f.block
    refine ⟨r', latch, run, ?_, hcounts, hnext⟩
    rw [hlane, hw]
    cases i <;> rfl
  case isFalse =>
    refine ⟨r.sampled e, w.lane.latch, run, ?_, rfl, hnext⟩
    rw [hw]
    cases i <;> rfl

/-! ### The end test -/

theorem endTest_of_none {w : Work} {e : Entry} (h : w.lane.runningSlot = none) : endTest w e = w := by
  simp only [endTest, h]

section EndTest

variable {w : Work} {i : SlotId} {d : Descriptor} {r : Report} {m : Nat} {e : Entry}
  (hi : w.lane.runningSlot = some i)
include hi

/-- An end request ends the segment, whatever the entry's mark (R150). -/
theorem endTest_requested (hs : w.lane.slot i = .running d r true m) :
    endTest w e = endSegment w i .endCommand := by
  simp [endTest, hi, hs]

/-- The mark that completes the length ends the segment (R149). -/
theorem endTest_completed (hs : w.lane.slot i = .running d r false m) (he : e.perfMark = true)
    (hd : 1 ≤ d.length) (hm : d.length ≤ m + 1) :
    endTest w e = (endSegment w i .length).note .segmentLengthEnd := by
  simp [endTest, hi, hs, he, hd, hm]

/-- A mark below the length, or of an open segment, is counted (R149). -/
theorem endTest_counted (hs : w.lane.slot i = .running d r false m) (he : e.perfMark = true)
    (hd : d.length = 0 ∨ m + 1 < d.length) :
    endTest w e = w.setLane (w.lane.setSlot i (.running d r false (m + 1))) := by
  have hbelow : ¬ (1 ≤ d.length ∧ d.length ≤ m + 1) := by omega
  simp [endTest, hi, hs, he, hbelow]

theorem endTest_unmarked (hs : w.lane.slot i = .running d r false m) (he : e.perfMark = false) :
    endTest w e = w := by
  simp [endTest, hi, hs, he]

end EndTest

/-! ### The start test -/

theorem startTest_of_running {w : Work} (h : w.lane.runningSlot ≠ none) (e : Entry) :
    startTest w e = w := by
  obtain ⟨i, hi⟩ := Option.ne_none_iff_exists'.1 h
  simp only [startTest, hi]

/-- No slot starts when no LOADED slot of the load order meets its condition (R146, R147). -/
theorem Lane.slotToStart_eq_none {l : Lane} {e : Entry}
    (h : ∀ i ∈ l.loadOrder, ∀ d, l.slot i = .loaded d → ¬ d.Meets e) : l.slotToStart e = none := by
  refine List.find?_eq_none.2 fun i hi => ?_
  split
  case h_1 d hd => exact fun hstarts => h i hi d hd ((startsAt_iff d e).1 hstarts)
  case h_2 => exact Bool.false_ne_true

/-- The first slot of the load order whose condition the entry meets (R146, R147). -/
theorem Lane.slotToStart_eq_some {l : Lane} {e : Entry} {pre post : List SlotId} {i : SlotId}
    {d : Descriptor} (ho : l.loadOrder = pre ++ i :: post)
    (hpre : ∀ j ∈ pre, ∀ d', l.slot j = .loaded d' → ¬ d'.Meets e) (hs : l.slot i = .loaded d)
    (hd : d.Meets e) : l.slotToStart e = some i := by
  refine List.find?_eq_some_iff_append.2 ⟨?_, pre, post, ho, fun j hj => ?_⟩
  · simp only [hs, (startsAt_iff d e).2 hd]
  · split
    case h_1 d' hd' =>
      rw [Bool.not_eq_true', ← Bool.not_eq_true, startsAt_iff]
      exact hpre j hj d' hd'
    case h_2 => rfl

/-- The lane after the start of a LOADED slot (R148). -/
theorem startSegment_loaded {w : Work} {i : SlotId} {d : Descriptor} (hs : w.lane.slot i = .loaded d)
    (e : Entry) :
    startSegment w i e =
      { w with
        lane := { w.lane.setSlot i (.running d (Report.fresh e.pos) false 0) with
          loadOrder := w.lane.loadOrder.filter (fun j => decide (j ≠ i))
          latch := w.lane.latch ||| (0x04 &&& w.lane.mask)
          run := { w.lane.run with former := ⟨0, 0, []⟩ } } } := by
  simp only [startSegment, hs]
  cases i <;> rfl

/-- A slot that starts while none is RUNNING is the running slot (R148). -/
theorem startSegment_runningSlot {w : Work} {i : SlotId} {d : Descriptor}
    (hnone : w.lane.runningSlot = none) (hs : w.lane.slot i = .loaded d) (e : Entry) :
    (startSegment w i e).lane.runningSlot = some i := by
  rw [startSegment_loaded hs]
  refine Lane.runningSlot_eq_some.2 ⟨by cases i <;> rfl, ?_⟩
  rintro rfl
  exact Lane.runningSlot_eq_none hnone .a

theorem startTest_starts {w : Work} {e : Entry} {i : SlotId} (hnone : w.lane.runningSlot = none)
    (hi : w.lane.slotToStart e = some i) : startTest w e = startSegment w i e := by
  simp only [startTest, hnone, hi]

/-- With no LOADED slot that meets its condition nothing starts (R146). -/
theorem startTest_noneMeets {w : Work} {e : Entry}
    (h : ∀ i ∈ w.lane.loadOrder, ∀ d, w.lane.slot i = .loaded d → ¬ d.Meets e) :
    startTest w e = w := by
  simp only [startTest, Lane.slotToStart_eq_none h]
  cases w.lane.runningSlot <;> rfl

/-! ### The end of the running segment -/

theorem Work.offerLast_eq (w : Work) (d : Descriptor) : w.offerLast d =
    if w.lane.run.former.block = [] then w
    else offerBlock w d w.lane.run.former.first w.lane.run.former.block := by
  simp only [offerLast, List.isEmpty_iff]

theorem offerLast_trace (w : Work) (d : Descriptor) : (w.offerLast d).trace = w.trace := by
  unfold Work.offerLast
  split
  · rfl
  · exact offerBlock_trace ..

/-- The offer of the last block changes the block counts of the report alone (R141, R142). -/
theorem offerLast_slot {w : Work} {i : SlotId} {d : Descriptor} {r : Report} {q : Bool} {m : Nat}
    (hi : w.lane.runningSlot = some i) (hs : w.lane.slot i = .running d r q m) :
    ∃ r' : Report, r' = { r with blocksSent := r'.blocksSent, blocksDropped := r'.blocksDropped } ∧
      (w.offerLast d).lane.slot i = .running d r' q m := by
  obtain ⟨r', latch, hlane, -, -, hblock⟩ := offerLast_running hi hs
  refine ⟨r', hblock.report, ?_⟩
  rw [hlane]
  cases i <;> rfl

theorem offerLast_mask (w : Work) (d : Descriptor) : (w.offerLast d).lane.mask = w.lane.mask := by
  unfold Work.offerLast
  split
  · rfl
  · exact (offerBlock_latches w d _ _).mask

/-- The end of a segment whose last block has been offered: the report is kept, the former emptied and
the condition raised (R151). -/
theorem endSegment_afterOffer {w w' : Work} {i : SlotId} {d : Descriptor} {r r' : Report} {q : Bool}
    {m : Nat} (hs : w.lane.slot i = .running d r q m) (hw : w' = w.offerLast d)
    (hs' : w'.lane.slot i = .running d r' q m) (reason : EndReason) :
    endSegment w i reason =
      { w' with
        lane := { w'.lane.setSlot i (.finished d r' reason) with
          latch := w'.lane.latch ||| (0x08 &&& w.lane.mask)
          run := { w'.lane.run with former := ⟨0, 0, []⟩ } } } := by
  have hmask : w'.lane.mask = w.lane.mask := by rw [hw, offerLast_mask]
  rw [endSegment_eq hs, ← hw, hs', ← hmask]
  cases i <;> rfl

/-! ### Latched conditions -/

/-- Conditions latched stay latched. -/
theorem Work.Keeps.latched {w w' : Work} (h : w.Keeps w') {c : BitVec 8} (hc : w.lane.latch &&& c = c) :
    w'.lane.latch &&& c = c := by
  calc w'.lane.latch &&& c
      = w.lane.latch &&& w'.lane.latch &&& c := by
        rw [BitVec.and_comm w.lane.latch, BitVec.and_assoc, hc]
    _ = c := by rw [h.latch, hc]

/-- Conditions that the mask holds are latched when they are raised (R172, R173). -/
theorem latched_of_raised {latch mask c : BitVec 8} (h : mask &&& c = c) :
    (latch ||| (c &&& mask)) &&& c = c := by
  rw [BitVec.and_comm c, h]
  ext k hk
  simpa using Or.inr

/-- A byte that holds two conditions holds the first. -/
theorem contains_of_union {x a b : BitVec 8} (h : x &&& (a ||| b) = a ||| b) :
    x &&& a = a := by
  have hself : (a ||| b) &&& a = a := by
    ext k hk
    simpa using Or.inl
  rw [← hself, ← BitVec.and_assoc, h]

theorem contains_union {x a b : BitVec 8} (ha : x &&& a = a) (hb : x &&& b = b) :
    x &&& (a ||| b) = a ||| b := by
  rw [BitVec.and_or_distrib_left, ha, hb]

/-! ### The handover -/

/-- An IMMEDIATE or AT_PERF segment starts at any entry that carries a mark (R147). -/
theorem Descriptor.meets_of_mark {d : Descriptor} {e : Entry} (hd : d.start ≠ .atSplice)
    (he : e.perfMark = true) : d.Meets e := by
  cases hs : d.start with
  | immediate => exact .inl hs
  | atPerf => exact .inr (.inl ⟨hs, he⟩)
  | atSplice => exact absurd hs hd

/-- Segment i is RUNNING, entry e carries the mark that completes its length, and slot j alone is LOADED,
with a start condition that the mark meets. -/
structure Work.HandsOver (w : Work) (e : Entry) (i j : SlotId) (d d' : Descriptor) (r : Report)
    (m : Nat) : Prop where
  ne : i ≠ j
  running : w.lane.slot i = .running d r false m
  loaded : w.lane.slot j = .loaded d'
  order : w.lane.loadOrder = [j]
  limited : 1 ≤ d.length
  complete : d.length ≤ m + 1
  mark : e.perfMark = true
  start : d'.start ≠ .atSplice

namespace Work.HandsOver

variable {w : Work} {e : Entry} {i j : SlotId} {d d' : Descriptor} {r : Report} {m : Nat}
  (h : w.HandsOver e i j d d' r m)
include h

theorem runningSlot : w.lane.runningSlot = some i :=
  Lane.runningSlot_of_only h.ne (by rw [h.running]; rfl) (by rw [h.loaded]; rfl)

theorem endTest_eq : endTest w e = (endSegment w i .length).note .segmentLengthEnd :=
  endTest_completed h.runningSlot h.running h.mark h.limited h.complete

/-- After the end test no slot is RUNNING, and slot j is LOADED as before. -/
theorem endTest_slots :
    (endTest w e).lane.runningSlot = none ∧ (endTest w e).lane.slot j = .loaded d' ∧
      (endTest w e).lane.loadOrder = [j] := by
  obtain ⟨r', latch, hlane, -⟩ := endSegment_running h.runningSlot h.running .length
  rw [← Work.note_lane _ .segmentLengthEnd, ← h.endTest_eq] at hlane
  have hslot (k : SlotId) : (endTest w e).lane.slot k =
      (w.lane.setSlot i (.finished d r' .length)).slot k := by
    rw [hlane]
    cases k <;> rfl
  have hloaded : (endTest w e).lane.slot j = .loaded d' := by
    rw [hslot, Lane.slot_setSlot_other _ _ _ _ h.ne.symm, h.loaded]
  have horder : (endTest w e).lane.loadOrder = [j] := by
    rw [hlane, ← h.order]
    exact Lane.setSlot_loadOrder ..
  refine ⟨Lane.runningSlot_of_none fun k => ?_, hloaded, horder⟩
  rcases SlotId.eq_or_eq h.ne k with rfl | rfl
  · rw [hslot, Lane.slot_setSlot_same]
    rfl
  · rw [hloaded]
    rfl

/-- The end latches SEGMENT_FINISHED, where the mask holds it (R151, R173). -/
theorem endTest_latched (hmask : w.lane.mask &&& 0x08 = 0x08) :
    (endTest w e).lane.latch &&& 0x08 = 0x08 := by
  obtain ⟨r', -, hs'⟩ := offerLast_slot h.runningSlot h.running
  rw [h.endTest_eq, endSegment_afterOffer h.running rfl hs']
  exact latched_of_raised hmask

/-- The same entry starts segment j (R146). -/
theorem startTest_eq : startTest (endTest w e) e = startSegment (endTest w e) j e := by
  obtain ⟨hnone, hloaded, horder⟩ := h.endTest_slots
  have hmeets := Descriptor.meets_of_mark h.start h.mark
  exact startTest_starts hnone (Lane.slotToStart_eq_some (pre := []) horder (by simp) hloaded hmeets)

/-- The start latches SEGMENT_STARTED, where the mask holds it (R148, R173). -/
theorem startTest_latched (hmask : w.lane.mask &&& 0x04 = 0x04) :
    (startTest (endTest w e) e).lane.latch &&& 0x04 = 0x04 := by
  obtain ⟨-, hloaded, -⟩ := h.endTest_slots
  obtain ⟨-, -, -, -, -, hkept⟩ := (endTest_keeps w e).1.config
  rw [h.startTest_eq, startSegment_loaded hloaded]
  exact latched_of_raised (by rw [hkept, hmask])

/-- Slot j is RUNNING with the entry as its first sample (R137, R148). -/
theorem judge_started (y : Int) :
    ∃ r₂ : Report, (judge w e y).lane.slot j = .running d' r₂ false 0 ∧
      (judge w e y).lane.loadOrder = [] ∧
      r₂ = { (Report.fresh e.pos).sampled e with
        blocksSent := r₂.blocksSent, blocksDropped := r₂.blocksDropped } ∧
      (judge w e y).lane.run.former.nextPos = 1 := by
  obtain ⟨hnone, hloaded, horder⟩ := h.endTest_slots
  have hstart := startSegment_loaded hloaded e
  have hslot : (startSegment (endTest w e) j e).lane.slot j =
      .running d' (Report.fresh e.pos) false 0 := by
    rw [hstart]
    cases j <;> rfl
  obtain ⟨r₂, latch, run, hlane, hr₂, hnext⟩ :=
    outputStep_running_lane (startSegment_runningSlot hnone hloaded e) hslot e y
  rw [judge, h.startTest_eq, hlane]
  refine ⟨r₂, by cases j <;> rfl, ?_, hr₂, by rw [hnext, hstart]⟩
  rw [Lane.setSlot_loadOrder, hstart, horder]
  simp

/-- Both conditions are latched in one judgement, where the mask holds them. -/
theorem judge_latched (hmask : w.lane.mask &&& 0x0C = 0x0C) (y : Int) :
    (judge w e y).lane.latch &&& 0x0C = 0x0C := by
  have houtput := (outputStep_keeps (startTest (endTest w e) e) e y).1
  have hstarted : (judge w e y).lane.latch &&& 0x04 = 0x04 :=
    houtput.latched (h.startTest_latched (contains_of_union (b := 0x08) hmask))
  have hfinished : (judge w e y).lane.latch &&& 0x08 = 0x08 :=
    ((startTest_keeps _ e).1.trans houtput).latched
      (h.endTest_latched (contains_of_union (b := 0x04) hmask))
  exact contains_union hstarted hfinished

end Work.HandsOver

end Sys2Proof.Machine

namespace Sys2Proof.Settled

open Sys2Proof.Machine

/-- Settles O52: the end test by `endSegment_afterOffer`, the start test by `startSegment_loaded`, and the
two together by `judge_lengthEnd` and the lemmas of `Work.HandsOver`. -/
theorem segmentsStartEndAndHandOver : Obligations.SegmentsStartEndAndHandOver := by
  refine ⟨fun w e y => ⟨rfl, endTest_of_none, fun h => startTest_of_running h e, fun h => ?_⟩,
    fun w w' e i d r req m hi hs hw => ⟨?_, ?_, ?_⟩, ?_, ?_⟩
  · exact startTest_noneMeets h
  · rintro rfl he
    exact endTest_unmarked hi hs he
  · rintro rfl he hd
    exact endTest_counted hi hs he hd
  · have hoffer : w' = w.offerLast d := by rw [hw, Work.offerLast_eq]
    obtain ⟨r', hr', hs'⟩ := offerLast_slot hi hs
    rw [← hoffer] at hs'
    have htrace : w'.trace = w.trace := by rw [hoffer, offerLast_trace]
    refine ⟨r', hr', hs', fun reason hreason => ?_⟩
    rcases hreason with ⟨rfl, rfl⟩ | ⟨rfl, he, hd, hm, rfl⟩
    · rw [endTest_requested hi hs, endSegment_afterOffer hs hoffer hs', ← htrace]
      rfl
    · rw [endTest_completed hi hs he hd hm, endSegment_afterOffer hs hoffer hs', ← htrace]
      rfl
  · intro w e pre post i d hnone ho hpre hs hd
    refine ⟨Report.fresh e.pos, rfl, ?_⟩
    rw [startTest_starts hnone (Lane.slotToStart_eq_some ho hpre hs hd), startSegment_loaded hs]
  · intro w e y i j d d' r m hij hi hj ho hd hm he hd'
    have h : w.HandsOver e i j d d' r m := ⟨hij, hi, hj, ho, hd, hm, he, hd'⟩
    obtain ⟨htrace, r₁, hfinished, hr₁⟩ := judge_lengthEnd h.runningSlot hi he hd hm y
    obtain ⟨r₂, hrunning, horder, hr₂, hnext⟩ := h.judge_started y
    refine ⟨r₁, r₂, hfinished, hrunning, horder, hr₁, ?_, ?_, ?_, hnext,
      fun hmask => h.judge_latched hmask y, htrace⟩ <;> rw [hr₂] <;> rfl

end Sys2Proof.Settled

/-! # The link's queues stay bounded

What enters the two queues of the link and what fits, through each block of a lane and each row of the
table. Settles O13. -/

namespace Sys2Proof.Machine

/-! ### Room in the outbound queue -/

@[simp] theorem usedBytes_cons (f : Frame) (q : List Frame) :
    usedBytes (f :: q) = usedBytes q + (f.payload.length + 7) := by
  simp only [usedBytes, List.map_cons, List.sum_cons, Frame.bytes, Config.frameOverhead]
  exact Nat.add_comm _ _

@[simp] theorem usedBytes_concat (q : List Frame) (f : Frame) :
    usedBytes (q ++ [f]) = usedBytes q + (f.payload.length + 7) := by
  simp [usedBytes, Frame.bytes, Config.frameOverhead]

/-- A reply or a notice enters when its bytes fit (R171). -/
theorem fits_iff (q : List Frame) (f : Frame) :
    fits q f = true ↔ usedBytes q + (f.payload.length + 7) ≤ 65536 := by
  unfold fits freeRoom Frame.bytes
  rw [decide_eq_true_iff]
  simp only [Config.frameOverhead, Config.outboundSize]
  omega

/-- What fits with the reserve fits without it (R171). -/
theorem fits_of_fitsReserve {q : List Frame} {f : Frame} (h : fitsReserve q f = true) :
    fits q f = true := by
  rw [fits_iff]
  rw [fitsReserve_iff] at h
  omega

/-- From w to w' the outbound queue stays within its 65,536 bytes (R170). -/
def Work.KeepsRoom (w w' : Work) : Prop :=
  usedBytes w.outbound ≤ 65536 → usedBytes w'.outbound ≤ 65536

namespace Work.KeepsRoom

theorem refl (w : Work) : w.KeepsRoom w := fun h => h

theorem trans {a b c : Work} (h : a.KeepsRoom b) (k : b.KeepsRoom c) : a.KeepsRoom c :=
  fun room => k (h room)

/-- A block that queues no frame. -/
theorem of_same {w w' : Work} (h : w'.outbound = w.outbound := by rfl) : w.KeepsRoom w' :=
  fun room => h ▸ room

/-- A frame that fits enters, and with it the lane may change. -/
theorem enqueue {w w' : Work} {f : Frame} (hf : fits w.outbound f = true)
    (h : w'.outbound = w.outbound ++ [f] := by rfl) : w.KeepsRoom w' := fun _ => by
  rw [h, usedBytes_concat]
  exact (fits_iff _ _).1 hf

theorem ite {w x y : Work} {c : Prop} [Decidable c] (hx : w.KeepsRoom x) (hy : w.KeepsRoom y) :
    w.KeepsRoom (if c then x else y) := by
  split <;> assumption

end Work.KeepsRoom

/-! ### The two offers with the reserve -/

theorem offerBlock_room (w : Work) (d : Descriptor) (first : Nat) (vs : List Int) :
    w.KeepsRoom (offerBlock w d first vs) := by
  unfold offerBlock
  dsimp only
  split
  case isTrue hf => exact .enqueue (fits_of_fitsReserve hf)
  case isFalse => exact .of_same

theorem offerReport_room (w : Work) (g : BitVec 16) (r : DefectRecord) :
    w.KeepsRoom (offerReport w g r) := by
  unfold offerReport
  dsimp only
  split
  case isTrue hf => exact .enqueue (fits_of_fitsReserve hf)
  case isFalse => exact .of_same

/-! ### A departure -/

theorem outputSample_room (w : Work) (d : Descriptor) (e : Entry) (y : Int) :
    w.KeepsRoom (outputSample w d e y) :=
  .ite ((Work.KeepsRoom.of_same).trans (offerBlock_room _ _ _ _)) .of_same

theorem endSegment_room (w : Work) (i : SlotId) (reason : EndReason) :
    w.KeepsRoom (endSegment w i reason) := by
  unfold endSegment
  split
  · exact (Work.KeepsRoom.ite (.refl w) (offerBlock_room w _ _ _)).trans .of_same
  · exact .refl w

theorem startSegment_outbound (w : Work) (i : SlotId) (e : Entry) :
    (startSegment w i e).outbound = w.outbound := by
  unfold startSegment
  split <;> rfl

theorem judge_room (w : Work) (e : Entry) (y : Int) : w.KeepsRoom (judge w e y) := by
  have hend : w.KeepsRoom (endTest w e) := by
    unfold endTest
    split
    · exact .refl w
    · split
      · exact .ite (endSegment_room _ _ _)
          (.ite (.ite ((endSegment_room _ _ _).trans .of_same) .of_same) (.refl w))
      · exact .refl w
  have hstart (v : Work) : v.KeepsRoom (startTest v e) := by
    unfold startTest
    split
    · exact .of_same (startSegment_outbound _ _ _)
    · exact .refl v
  have houtput (v : Work) : v.KeepsRoom (outputStep v e y) := by
    unfold outputStep
    split
    · exact outputSample_room _ _ _ _
    · exact .refl v
  exact (hend.trans (hstart _)).trans (houtput _)

theorem retireAt_room (w : Work) (e : Entry) (r : Option DefectRecord) : w.KeepsRoom (retireAt w e r) := by
  have hretire (d : Option Descriptor) (r : DefectRecord) : w.KeepsRoom (retire w d r) := by
    unfold retire
    dsimp only
    split
    · exact ((Work.KeepsRoom.of_same (w' := w.count _)).trans
        (.ite (offerReport_room _ _ _) (.refl _))).trans .of_same
    · exact .of_same
  unfold retireAt
  split
  · exact .ite (hretire _ _) (.refl w)
  · exact .refl w

/-- The hum and the hiss stages queue nothing. -/
theorem hissDepart_humDepart_outbound (w : Work) (e : Entry) (xd : Int) :
    (hissDepart (humDepart w e) xd).outbound = w.outbound := by
  simp [hissDepart, humDepart, teachTemplates, countBoundaries]

theorem depart_room (w : Work) : w.KeepsRoom (depart w) := by
  cases hw : w.lane.run.ring.window with
  | nil => rw [depart_of_empty hw]; exact .refl w
  | cons e es =>
    rw [depart_eq hw, departStages_eq _ _ _ rfl]
    exact (Work.KeepsRoom.of_same (hissDepart_humDepart_outbound (w.passed e es) _ _)).trans
      ((judge_room _ _ _).trans (retireAt_room _ _ _))

theorem departureTest_room (w : Work) : w.KeepsRoom (departureTest w) := fun room =>
  departureTest_induction (P := fun v => usedBytes v.outbound ≤ 65536) room
    fun v hv _ => depart_room v hv

/-! ### The examination queues nothing -/

section Examination

variable (w : Work) (n : Entry) (m : Measures) (d : Demand)

@[simp] theorem openRecord_outbound (a b : Pos) (c : Causes) (p : Nat) (t : Nat × Nat) :
    (openRecord w a b c p t).outbound = w.outbound := by
  rcases Nat.lt_or_ge w.lane.run.queue.records.length 32 with h | h
  · rw [openRecord_eq a b c p t h]
  · rw [openRecord_full a b c p t h]

@[simp] theorem openAt_outbound (b : Bool) : (openAt w n b m d).outbound = w.outbound := by
  unfold openAt
  dsimp only
  split <;> simp

@[simp] theorem openRemainder_outbound (p : Pos) : (openRemainder w n p d).outbound = w.outbound := by
  unfold openRemainder
  split <;> simp

@[simp] theorem extendRecord_outbound (r : DefectRecord) :
    (extendRecord w r n m d).outbound = w.outbound := by
  unfold extendRecord
  dsimp only
  split
  · split <;> simp
  · rfl

@[simp] theorem recordActions_outbound : (recordActions w n m d).outbound = w.outbound := by
  unfold recordActions
  split
  · split <;> simp
  · simp

@[simp] theorem closingTest_outbound (p : Pos) : (closingTest w p).outbound = w.outbound := by
  unfold closingTest
  split
  · split <;> rfl
  · rfl

/-- An examination queues no frame (R83). -/
@[simp] theorem examine_outbound : (examine w n).outbound = w.outbound := by
  unfold examine
  split
  · rfl
  · obtain ⟨m, c, v, det, rfl, he, -⟩ := examineEntry_eq w n
    rw [he, Work.setRun_outbound, closingTest_outbound, recordActions_outbound]
    rfl

end Examination

/-! ### An entry event and an instant -/

theorem makeRoom_room (n : Nat) (w : Work) : w.KeepsRoom (makeRoom n w) := fun room =>
  makeRoom_induction (P := fun v => usedBytes v.outbound ≤ 65536) n room fun v hv _ => by
    have hfreed : v.freed.outbound = v.outbound := by
      unfold Work.freed
      split <;> rfl
    rw [makeRoomOnce_eq]
    exact (Work.KeepsRoom.of_same hfreed).trans (depart_room _) hv

theorem entryEvent_room (w : Work) (o : Output) : w.KeepsRoom (entryEvent w o) := by
  have hindex : (indexOutput w o).outbound = w.outbound := by
    unfold indexOutput
    dsimp only
    split <;> rfl
  have hplace (v : Work) (e : Entry) : v.KeepsRoom (placeEntry v e) := .of_same
  exact ((((Work.KeepsRoom.of_same hindex).trans (makeRoom_room _ _)).trans (hplace _ _)).trans
    (.of_same (examine_outbound _ _))).trans (departureTest_room _)

theorem resampleInstant_room (next : PrevInstant) (splice : Bool) (w : Work) :
    w.KeepsRoom (resampleInstant next splice w) := by
  have houtputs (p : PrevInstant) (n : Nat) : ∀ v : Work, v.KeepsRoom ((produce p next)^[n] v) := by
    induction n with
    | zero => exact .refl
    | succ n ih => exact fun v => ((Work.KeepsRoom.of_same).trans (entryEvent_room _ _)).trans (ih _)
  cases hp : w.lane.run.resampler.prev with
  | none => rw [resampleInstant_first hp]; exact .of_same
  | some p =>
    obtain ⟨n, -, hn, -⟩ := resampleInstant_outputs hp next splice
    rw [hn]
    exact ((Work.KeepsRoom.of_same (w' := w.withSplice next.index splice)).trans
      (houtputs p n _)).trans .of_same

theorem watchSignal_room (q : Quality) (w : Work) : w.KeepsRoom (watchSignal q w) := by
  have hlost (v : Work) : v.KeepsRoom (onSignalLost v) := by
    cases hr : v.lane.run.queue.openRecord with
    | none => rw [onSignalLost_none hr]; exact .of_same
    | some r =>
      rw [onSignalLost_some hr]
      exact (Work.KeepsRoom.of_same).trans (departureTest_room _)
  unfold watchSignal
  dsimp only
  split
  · exact (Work.KeepsRoom.of_same).trans (hlost _)
  · exact .of_same
  · exact .of_same

/-- The tracker's part of an instant queues nothing (R26, R38). -/
theorem trackStage_outbound (k : Pos) (n : Nat) (e : Int) (w : Work) :
    ((trackInstant k n w).restep e).outbound = w.outbound := by
  have hput (v : Work) (t : Tracker) : (v.putTracker t).outbound = v.outbound := by
    unfold Work.putTracker
    dsimp only
    split <;> rfl
  have hedge (v : Work) : (trackEdge k v).outbound = v.outbound := by simp [trackEdge, hput]
  have hedges (v : Work) : (trackEdges k n v).outbound = v.outbound := by
    induction n generalizing v with
    | zero => rfl
    | succ n ih => exact (ih _).trans (hedge v)
  have hstep (v : Work) : (v.restep e).outbound = v.outbound := by
    unfold Work.restep
    dsimp only
    split <;> rfl
  rw [hstep]
  simp [trackInstant, trackTimeout, hput, hedges]

theorem completeInstant_room (x : Int) (h : Option Halves) (q : Quality) (es : List EdgeKind)
    (w : Work) : w.KeepsRoom (completeInstant x h q es w) :=
  (((Work.KeepsRoom.of_same (w := w)).trans (watchSignal_room q _)).trans
    (.of_same (trackStage_outbound _ _ _ _))).trans (resampleInstant_room _ _ _)

theorem completeSensor_room (x : Int) (h : Option Halves) (q : Quality) (w : Work) :
    w.KeepsRoom (completeSensor x h q w) :=
  (Work.KeepsRoom.of_same (w := w)).trans (completeInstant_room _ _ _ _ _)

theorem takeWord_room (f : SensorFields) (w : Work) : w.KeepsRoom (takeWord f w) := by
  unfold takeWord
  refine .ite (.ite ?_ (completeSensor_room _ _ _ w)) (.refl w)
  unfold takeDual
  split
  · exact .of_same
  · exact .of_same
  · exact (Work.KeepsRoom.of_same).trans (completeSensor_room _ _ _ _)
  · exact .of_same

theorem generateInstant_room (w : Work) : w.KeepsRoom (generateInstant w) :=
  .ite ((Work.KeepsRoom.of_same).trans (completeInstant_room _ _ _ _ _)) (.refl w)

theorem writeBackLane_room (b : BankId) (j : Job) (rs : List Int) (w : Work) :
    w.KeepsRoom (writeBackLane b j rs w) := by
  unfold writeBackLane
  split
  · exact (Work.KeepsRoom.of_same).trans (departureTest_room _)
  · exact .refl w

theorem stopEffects_room (w : Work) : w.KeepsRoom (stopEffects w) := by
  unfold stopEffects
  split
  · exact (endSegment_room w _ _).trans .of_same
  · exact .of_same

/-- A notice enters only where it fits (R171, R173). -/
theorem formLaneNotice_room (id : LaneId) (w : Work) : w.KeepsRoom (formLaneNotice id w) := by
  unfold formLaneNotice
  split
  case isTrue h =>
    obtain ⟨-, hf⟩ := Bool.and_eq_true_iff.1 h
    exact .enqueue hf
  case isFalse => exact .refl w

/-- No row's part in a lane takes the outbound queue beyond its size. -/
theorem Work.ByRow.keepsRoom {w v : Work} (h : w.ByRow v) : w.KeepsRoom v := by
  cases h with
  | stop _ => exact stopEffects_room w
  | reset => exact (Work.KeepsRoom.ite (stopEffects_room w) (.refl w)).trans .of_same
  | word f => exact takeWord_room f w
  | edge k => exact .ite .of_same (.refl w)
  | generate => exact generateInstant_room w
  | notice id => exact formLaneNotice_room id w
  | writeBack b j rs => exact writeBackLane_room b j rs w
  | _ => exact .of_same

/-! ### The inbound queue -/

/-- The payload of a frame that received bytes hold is all but seven of them (R159). -/
theorem Frame.ofWire_payload_length {bs : List Byte} {f : Frame} (h : Frame.ofWire bs = some f) :
    f.payload.length ≤ bs.length - 7 := by
  unfold ofWire at h
  dsimp only at h
  split at h
  · cases h
  · split at h
    · cases h
    · split at h
      · cases h
      · cases h
        exact List.length_take_le _ _

namespace Link.Ok

variable {k : Link}

/-- A good frame enters only behind fewer than eight (R160). -/
theorem offerInbound (h : k.Ok) {f : Frame} (hf : f.payload.length ≤ 1280) : (k.offerInbound f).Ok := by
  obtain ⟨hdepth, hpayload, hroom⟩ := h
  unfold Link.offerInbound
  split
  case isTrue hlt =>
    refine ⟨?_, fun g hg => ?_, hroom⟩
    · rw [List.length_append, List.length_singleton]
      exact hlt
    · rcases List.mem_append.1 hg with hg | hg
      · exact hpayload g hg
      · exact List.mem_singleton.1 hg ▸ hf
  case isFalse => exact ⟨hdepth, hpayload, hroom⟩

/-- A judged frame enters with at most 1,280 payload bytes, or is counted (R159). -/
theorem judgeFrame (h : k.Ok) (cs : List (Option LinkChar)) : (k.judgeFrame cs).Ok := by
  unfold Link.judgeFrame
  dsimp only
  split
  case isTrue => exact h
  case isFalse hsize =>
    split
    case h_1 f hf =>
      split
      · exact h
      · have hlen := Frame.ofWire_payload_length hf
        simp only [Config.inboundPayload, Config.frameOverhead] at hsize
        exact h.offerInbound (by omega)
    case h_2 => exact h

/-- The frame in front leaves the inbound queue, and its reply waits beside the queues (R161). -/
theorem answered (h : k.Ok) (r : Frame) :
    Link.Ok { k with inbound := k.inbound.tail, waiting := some r } := by
  obtain ⟨hdepth, hpayload, hroom⟩ := h
  refine ⟨?_, fun f hf => hpayload f (List.mem_of_mem_tail hf), hroom⟩
  rw [List.length_tail]
  exact (Nat.sub_le _ _).trans hdepth

end Link.Ok

theorem Link.reset_ok : Link.reset.Ok := by decide

/-! ### The link through every row -/

/-- From s to t the link's queues stay within their bounds. -/
def State.KeepsLink (s t : State) : Prop := s.link.Ok → t.link.Ok

namespace State.KeepsLink

variable {s t : State}

/-- A row that leaves both queues. -/
theorem of_same (hi : t.link.inbound = s.link.inbound := by rfl)
    (ho : t.link.outbound = s.link.outbound := by rfl) : s.KeepsLink t := fun ok => by
  unfold Link.Ok
  rwa [hi, ho]

theorem ite {x y : State} {c : Prop} [Decidable c] (hx : s.KeepsLink x) (hy : s.KeepsLink y) :
    s.KeepsLink (if c then x else y) := by
  split <;> assumption

theorem putWork {l : LaneId} {w : Work} (h : (s.work l).ByRow w) : s.KeepsLink (s.putWork w) :=
  fun ⟨hdepth, hpayload, hroom⟩ => ⟨hdepth, hpayload, h.keepsRoom hroom⟩

theorem reply (h : s.KeepsLink t) (r : Frame) : s.KeepsLink (t.reply r) := fun ok => (h ok).answered r

theorem laneEvent {l : LaneId} {f : Work → Work} (h : ∀ w : Work, w.ByRow (f w)) :
    s.KeepsLink (laneEvent l f s) := .ite .of_same (.putWork (h (s.work l)))

theorem takeLane {kind : Byte} {lenOk : Nat → Bool} {c : Command} {body : Work → Work × Answer}
    (h : ∀ w : Work, w.ByRow (body w).1) : s.KeepsLink (takeLane kind lenOk c body s) := by
  rcases takeLane_cases kind lenOk c body s with he | ⟨r, he⟩ | ⟨l, -, -, he⟩ <;> rw [he]
  · exact .of_same
  · exact .reply .of_same r
  · exact .reply (.putWork (h (s.work l))) _

theorem takeDevice {kind : Byte} {len : Nat} {c : Command} {body : State → State × Answer}
    (h : s.KeepsLink (body s).1) : s.KeepsLink (takeDevice kind len c body s) := by
  rcases takeDevice_cases kind len c body s with he | ⟨r, he⟩ | he <;> rw [he]
  · exact .of_same
  · exact .reply .of_same r
  · exact .reply h _

/-- A reply or a notice that fits enters the outbound queue (R171). -/
theorem enqueue {f : Frame} (hf : fits s.link.outbound f = true)
    (hi : t.link.inbound = s.link.inbound := by rfl)
    (ho : t.link.outbound = s.link.outbound ++ [f] := by rfl) : s.KeepsLink t :=
  fun ⟨hdepth, hpayload, _⟩ => by
    unfold Link.Ok
    rw [hi, ho, usedBytes_concat]
    exact ⟨hdepth, hpayload, (fits_iff _ _).1 hf⟩

/-- A frame leaves the front of the outbound queue (R170). -/
theorem sent {f : Frame} {rest : List Frame} (h : s.link.outbound = f :: rest) :
    s.KeepsLink (s.sent f rest) := fun ⟨hdepth, hpayload, hroom⟩ => by
  rw [h, usedBytes_cons] at hroom
  exact ⟨hdepth, hpayload, (Nat.le_add_right _ _).trans hroom⟩

end State.KeepsLink

theorem loadJob_keepsLink (s : State) : s.KeepsLink (loadJob s) := by
  unfold loadJob
  split
  · split <;> exact .of_same
  · exact .of_same

theorem completeJob_keepsLink (s : State) : s.KeepsLink (completeJob s) := by
  have hstart (t : State) (j : Job) (b : BankId) : (startRepair t j b).link = t.link := by
    unfold startRepair
    dsimp only
    split
    · split <;> rfl
    · rfl
  unfold completeJob
  dsimp only
  split
  · split
    · exact .of_same (by rw [hstart]; rfl) (by rw [hstart]; rfl)
    · exact .of_same
  · exact .of_same

theorem writeBackStep_keepsLink (s : State) : s.KeepsLink (writeBackStep s) := by
  unfold writeBackStep writeBackWork
  rcases s.engine.bankToWrite with _ | ⟨b, j, rs⟩
  · exact .of_same
  · exact .putWork (l := j.lane) (.writeBack b j rs)

theorem causeStep_keepsLink (s : State) (c : Cause) : s.KeepsLink (causeStep s c) := by
  cases c with
  | word b => exact .laneEvent fun _ => .word _
  | generator l => exact .laneEvent fun _ => .generate
  | writeBack => exact .ite .of_same (writeBackStep_keepsLink s)

/-- No row takes a queue of the link beyond its bound: frames enter the inbound queue by the framer's
judgement, and the outbound queue where they fit; a reset empties both. -/
theorem exec_keepsLink {i : Instr} {s t : State} (h : exec i s = .next t) : s.KeepsLink t := by
  have hreset {u : State} (hi : u.link.inbound = [] := by rfl) (ho : u.link.outbound = [] := by rfl) :
      s.KeepsLink u := fun _ => by
    unfold Link.Ok
    rw [hi, ho]
    exact Link.reset_ok
  cases i with
  | resetnAsserted => cases h; exact hreset
  | resetnReleased => cases h; exact .ite hreset .of_same
  | resetAfterReply =>
    cases h
    split
    · exact .ite hreset .of_same
    · exact .of_same
  | frameSent =>
    cases h
    split
    case h_1 hout => exact .ite .of_same (.ite hreset (.sent hout))
    case h_2 => exact .of_same
  | identify c | deviceReset c | getLinkStats c | clearLinkStats c => cases h; exact .takeDevice .of_same
  | unknownKind kind c => cases h; exact .ite (.reply .of_same _) .of_same
  | setNoticeMask c =>
    cases h
    exact .ite (.takeDevice .of_same) (.takeLane fun w => .setMask _)
  | enableLane c => cases h; exact .takeLane fun _ => Work.byRow_ite .enable fun _ => .unchanged
  | disableLane c => cases h; exact .takeLane fun _ => Work.byRow_ite .disable fun _ => .unchanged
  | startLane c => cases h; exact .takeLane fun _ => Work.byRow_ite .start fun _ => .unchanged
  | stopLane c => cases h; exact .takeLane fun _ => Work.byRow_ite .stop fun _ => .unchanged
  | defaultLane c => cases h; exact .takeLane fun _ => Work.byRow_ite (fun _ => .unchanged) .toDefaults
  | resetLane c => cases h; exact .takeLane fun _ => .reset
  | queryLane c => cases h; exact .takeLane fun _ => .unchanged
  | setParam c => cases h; exact .takeLane (setParamBody_byRow _)
  | getParam c => cases h; exact .takeLane (getParamBody_byRow _)
  | readTable c => cases h; exact .takeLane (readTableBody_byRow _)
  | writeTable c => cases h; exact .takeLane (writeTableBody_byRow _)
  | loadSegment c => cases h; exact .takeLane (loadSegmentBody_byRow _)
  | endSegment c => cases h; exact .takeLane (endSegmentBody_byRow _)
  | collectReport c => cases h; exact .takeLane (collectReportBody_byRow _)
  | sensorWord b => cases h; exact .laneEvent fun _ => .word _
  | perfEdge l | spliceEdge l => cases h; exact .laneEvent fun _ => .edge _
  | generatorInstant l => cases h; exact .laneEvent fun _ => .generate
  | signalLost c | signalRecovered c | trackLock c | outlierLossOfLock c | trackTimeout c
  | recordClose c | templateSwap c | floorUpdate c | segmentLengthEnd c =>
    cases h
    exact .ite (causeStep_keepsLink s c) .of_same
  | jobLoad => cases h; exact .ite .of_same (loadJob_keepsLink s)
  | jobCompletion => cases h; exact .ite .of_same (completeJob_keepsLink s)
  | writeBack => cases h; exact .ite .of_same (writeBackStep_keepsLink s)
  | frameReceived codes =>
    cases h
    split
    · exact .ite .of_same fun ok => ok.judgeFrame _
    · exact .of_same
  | replyEntry =>
    cases h
    split
    · split
      case isTrue hfits =>
        obtain ⟨-, hf⟩ := Bool.and_eq_true_iff.1 hfits
        exact .enqueue hf
      case isFalse => exact .of_same
    · exact .of_same
  | noticeFormed latch =>
    cases h
    cases latch with
    | lane l => exact .laneEvent fun _ => .notice l
    | device =>
      dsimp only [formDeviceNotice]
      split
      case isTrue hfits =>
        obtain ⟨-, hf⟩ := Bool.and_eq_true_iff.1 hfits
        exact .enqueue hf
      case isFalse => exact .of_same

end Sys2Proof.Machine

namespace Sys2Proof.Settled

open Sys2Proof.Machine

/-- Settles O13: `exec_keepsLink` row by row; an idle character leaves both queues. -/
theorem linkQueuesStayBounded : Obligations.LinkQueuesStayBounded := by
  intro s t ok hstep
  unfold step at hstep
  split at hstep
  · cases hstep
    unfold idleTick
    split <;> exact ok
  · exact exec_keepsLink hstep ok

end Sys2Proof.Settled

/-! # Frames on the wire

A frame's bytes and the frame that received bytes hold, the characters collected of a line, and the framer's
judgement. Settles O9 and O10. -/

namespace Sys2Proof.Machine

/-! ### The bytes of a frame -/

/-- A field's bytes are those of the number they hold (R175). -/
theorem be_ofBe (bs : List Byte) : be bs.length (ofBe bs) = bs := by
  induction bs using List.reverseRecOn with
  | nil => rfl
  | append_singleton bs b ih =>
    have hb := b.isLt
    have hhigh : (256 * ofBe bs + b.toNat) / 256 = ofBe bs := by omega
    have hlow : BitVec.ofNat 8 (256 * ofBe bs + b.toNat) = b := BitVec.eq_of_toNat_eq (by
      rw [BitVec.toNat_ofNat]
      omega)
    rw [List.length_append, List.length_singleton, be, ofBe_concat, hhigh, hlow, ih]

@[simp] theorem Frame.wire_length (f : Frame) : f.wire.length = f.payload.length + 7 := by
  simp [wire, body, be_length]
  omega

/-- The framer's second test on bytes told apart as kind, tag, lane, length field, payload and check
(R158, R159). -/
theorem Frame.ofWire_fields (kind tag lane : Byte) {size check : List Byte} (payload : List Byte)
    (hsize : size.length = 2) (hcheck : check.length = 2) :
    Frame.ofWire (kind :: tag :: lane :: (size ++ payload) ++ check) =
      if ofBe size = payload.length ∧
          ofBe check = (crc16 (kind :: tag :: lane :: (size ++ payload))).toNat then
        some ⟨kind, tag, lane, payload⟩
      else none := by
  obtain ⟨a, b, rfl⟩ := List.length_eq_two.1 hsize
  have hlen : (kind :: tag :: lane :: ([a, b] ++ payload) ++ check).length = payload.length + 7 := by
    simp [hcheck]
  have hbody : (kind :: tag :: lane :: ([a, b] ++ payload) ++ check).take (5 + payload.length) =
      kind :: tag :: lane :: ([a, b] ++ payload) := List.take_left' (by simp; omega)
  have hcheckField : field (kind :: tag :: lane :: ([a, b] ++ payload) ++ check) (5 + payload.length) 2 =
      check := by
    rw [field, List.drop_left' (by simp; omega)]
    exact List.take_of_length_le hcheck.le
  have hpayload : field (kind :: tag :: lane :: ([a, b] ++ payload) ++ check) 5 payload.length = payload :=
    List.take_left' rfl
  have hsizeField : field (kind :: tag :: lane :: ([a, b] ++ payload) ++ check) 3 2 = [a, b] := rfl
  have hn : payload.length + 7 - Config.frameOverhead = payload.length := Nat.add_sub_cancel _ _
  have hshort : ¬payload.length + 7 < Config.frameOverhead := Nat.not_lt.2 (Nat.le_add_left _ _)
  simp only [ofWire, hlen, hn, if_neg hshort, hsizeField, hcheckField, hbody, hpayload, ne_eq, ite_not]
  split
  case isTrue hs => simp only [hs, true_and]; rfl
  case isFalse hs => simp only [hs, false_and, if_false]

/-- What the transmitter sends for a frame passes the framer's second test as that frame (R159). -/
theorem Frame.ofWire_wire {f : Frame} (h : f.payload.length ≤ 65535) : Frame.ofWire f.wire = some f := by
  have hcrc := (crc16 f.body).isLt
  have hsize : ofBe (be 2 f.payload.length) = f.payload.length := ofBe_be 2 (Nat.lt_succ_of_le h)
  have hcheck : ofBe (be 2 (crc16 f.body).toNat) = (crc16 f.body).toNat := ofBe_be 2 hcrc
  have hfields := Frame.ofWire_fields f.kind f.tag f.lane f.payload (be_length 2 f.payload.length)
    (be_length 2 (crc16 f.body).toNat)
  rwa [if_pos ⟨hsize, hcheck⟩] at hfields

/-- Seven bytes or more are a kind, a tag, a lane, a length field, a payload and a check (R158). -/
theorem exists_frame_fields {bs : List Byte} (h : 7 ≤ bs.length) :
    ∃ (kind tag lane : Byte) (size payload check : List Byte), size.length = 2 ∧ check.length = 2 ∧
      bs = kind :: tag :: lane :: (size ++ payload) ++ check := by
  match bs, h with
  | kind :: tag :: lane :: a :: b :: rest, h =>
    have hrest : 2 ≤ rest.length := by simpa using h
    refine ⟨kind, tag, lane, [a, b], rest.take (rest.length - 2), rest.drop (rest.length - 2), rfl, ?_, ?_⟩
    · rw [List.length_drop]
      omega
    · simp

/-- Bytes that pass the framer's second test are the bytes of the frame they hold (R159). -/
theorem Frame.wire_of_ofWire {bs : List Byte} {f : Frame} (h : Frame.ofWire bs = some f) : f.wire = bs := by
  have hlong : 7 ≤ bs.length := by
    by_contra hshort
    have hnone : Frame.ofWire bs = none := if_pos (Nat.not_le.1 hshort)
    simp [hnone] at h
  obtain ⟨kind, tag, lane, size, payload, check, hsize, hcheck, rfl⟩ := exists_frame_fields hlong
  rw [Frame.ofWire_fields kind tag lane payload hsize hcheck] at h
  split at h
  case isTrue hheld =>
    obtain ⟨hn, hcrc⟩ := hheld
    cases h
    have hsizeBytes : be 2 payload.length = size := by rw [← hn, ← hsize, be_ofBe]
    have hcheckBytes : be 2 (crc16 (kind :: tag :: lane :: (size ++ payload))).toNat = check := by
      rw [← hcrc, ← hcheck, be_ofBe]
    simp only [wire, body, hsizeBytes, hcheckBytes]
  case isFalse => cases h

/-! ### The characters of a line -/

/-- What comes before a start character is ignored (R159). -/
theorem framed_append {before : List Code} (h : ∀ c ∈ before, c ≠ 0b1101101000 ∧ c ≠ 0b0010010111)
    (rest : List Code) : framed (before ++ rest) = framed rest := by
  induction before with
  | nil => rfl
  | cons c before ih =>
    obtain ⟨⟨hminus, hplus⟩, hbefore⟩ := List.forall_mem_cons.1 h
    have hstart : startDisparity c = none := (if_neg hminus).trans (if_neg hplus)
    rw [List.cons_append, framed, hstart]
    exact ih hbefore

/-- Characters other than end are collected up to the end character, whatever follows it (R159). -/
theorem collect_lineCodes {cs : List LinkChar} (h : .stop ∉ cs) (d : Disparity) (after : List Code) :
    collect d (lineCodes d (cs ++ [.stop]) ++ after) = some (cs.map some) := by
  induction cs generalizing d with
  | nil => exact collect_stop d after
  | cons ch cs ih =>
    obtain ⟨hch, hcs⟩ := not_or.1 (mt List.mem_cons.2 h)
    simp only [List.cons_append, lineCodes]
    rw [collect_code (Ne.symm hch), ih hcs]
    rfl

/-- The characters between a start character and an end character are what a receiver collects of their
codes (R158, R159). -/
theorem framed_lineCodes {cs : List LinkChar} (h : .stop ∉ cs) (d : Disparity) (after : List Code) :
    framed (lineCodes d (.start :: (cs ++ [.stop])) ++ after) = some (cs.map some) := by
  obtain ⟨hshown, hafter⟩ := startDisparity_start d
  simp only [lineCodes, List.cons_append, framed, hshown, hafter]
  exact collect_lineCodes h d after

/-! ### The judgement -/

/-- Idle characters do not count: neither the bytes nor the damage of a frame change with them (R159). -/
theorem dataBytes_damaged_filter_idle (cs : List (Option LinkChar)) :
    dataBytes (cs.filter fun ch => decide (ch ≠ some .idle)) = dataBytes cs ∧
      damaged (cs.filter fun ch => decide (ch ≠ some .idle)) = damaged cs := by
  induction cs with
  | nil => exact ⟨rfl, rfl⟩
  | cons ch cs ih =>
    obtain ⟨hbytes, hdamage⟩ := ih
    by_cases hidle : ch = some .idle
    · subst hidle
      exact ⟨hbytes, hdamage⟩
    · rw [List.filter_cons_of_pos (by simpa using hidle)]
      simp only [dataBytes, damaged, List.filterMap_cons, List.any_cons] at hbytes hdamage ⊢
      exact ⟨by rw [hbytes], by rw [hdamage]⟩

theorem dataBytes_data (bs : List Byte) : dataBytes (bs.map fun b => some (.data b)) = bs := by
  simp [dataBytes, List.filterMap_map]

theorem damaged_data (bs : List Byte) : damaged (bs.map fun b => some (.data b)) = false := by
  simp [damaged]

theorem damaged_of_mem {cs : List (Option LinkChar)} (h : some .start ∈ cs ∨ none ∈ cs) :
    damaged cs = true := by
  rcases h with h | h <;> exact List.any_eq_true.2 ⟨_, h, rfl⟩

/-- A frame of at most 1,280 payload bytes, and idle characters in it, is offered to the inbound queue
(R159). -/
theorem Link.judgeFrame_good (k : Link) {f : Frame} {cs : List (Option LinkChar)}
    (hf : f.payload.length ≤ 1280)
    (hcs : cs.filter (fun ch => decide (ch ≠ some .idle)) = f.wire.map fun b => some (.data b)) :
    k.judgeFrame cs = k.offerInbound f := by
  obtain ⟨hbytes, hdamage⟩ := dataBytes_damaged_filter_idle cs
  rw [hcs, dataBytes_data] at hbytes
  rw [hcs, damaged_data] at hdamage
  have hsize : ¬Config.inboundPayload + Config.frameOverhead < (dataBytes cs).length := by
    rw [← hbytes, Frame.wire_length]
    simp only [Config.inboundPayload, Config.frameOverhead]
    omega
  have hheld : Frame.ofWire (dataBytes cs) = some f := by
    rw [← hbytes]
    exact Frame.ofWire_wire (by omega)
  simp only [judgeFrame, if_neg hsize, hheld, ← hdamage, Bool.false_eq_true, if_false]

/-- More than 1,287 bytes are oversize (R159, step 1). -/
theorem Link.judgeFrame_oversize (k : Link) {cs : List (Option LinkChar)} (h : 1287 < (dataBytes cs).length) :
    k.judgeFrame cs =
      { k with stats := { k.stats with oversize := min (k.stats.oversize + 1) 4294967295 } } :=
  if_pos h

/-- Otherwise damage, or bytes that are no frame's, are a CRC error (R159, step 2). -/
theorem Link.judgeFrame_damaged (k : Link) {cs : List (Option LinkChar)} (h : (dataBytes cs).length ≤ 1287)
    (hd : damaged cs = true ∨ ∀ f : Frame, Frame.ofWire (dataBytes cs) ≠ some f) :
    k.judgeFrame cs =
      { k with stats := { k.stats with crcErrors := min (k.stats.crcErrors + 1) 4294967295 } } := by
  have hsize : ¬Config.inboundPayload + Config.frameOverhead < (dataBytes cs).length := Nat.not_lt.2 h
  simp only [judgeFrame, if_neg hsize]
  cases hheld : Frame.ofWire (dataBytes cs) with
  | none => rfl
  | some f => exact if_pos (hd.resolve_right fun hnone => hnone f hheld)

/-- The row of codes that hold a whole frame, while RESETn is high (R159). -/
theorem exec_frameReceived {s : State} {codes : List Code} {cs : List (Option LinkChar)}
    (hs : s.resetHeld = false) (h : framed codes = some cs) :
    exec (.frameReceived codes) s = .next (s.setLink (s.link.judgeFrame cs)) := by
  simp [exec, execFrameReceived, h, hs]

end Sys2Proof.Machine

namespace Sys2Proof.Settled

open Sys2Proof.Machine

/-- Settles O9: the second test by `Frame.ofWire_wire`, and the line by `framed_lineCodes`. -/
theorem frameWireRoundTrip : Obligations.FrameWireRoundTrip := by
  refine ⟨fun f hf => Frame.ofWire_wire hf, fun d before after cs hbefore hcs => ⟨?_, ?_⟩, fun d f => ?_⟩
  · have hnone := framed_append hbefore []
    rwa [List.append_nil] at hnone
  · rw [List.append_assoc, framed_append hbefore]
    exact framed_lineCodes hcs d after
  · have hline := framed_lineCodes (cs := f.wire.map .data) (by simp) d []
    rw [List.append_nil, List.map_map] at hline
    exact hline

/-- Settles O10: each judgement of the framer, with `Frame.wire_of_ofWire` for the bytes of no frame. -/
theorem receivedFramesAreJudged : Obligations.ReceivedFramesAreJudged := by
  refine ⟨fun s f codes cs hs hf hcodes hcs => ?_, fun s codes h => ?_,
    fun s codes cs hs hcodes => ⟨fun h => ?_, fun h hd => ?_⟩⟩
  · rw [exec_frameReceived hs hcodes, Link.judgeFrame_good _ hf hcs]
    exact ⟨fun hroom => congrArg (Host.Outcome.next <| s.setLink ·) (if_pos hroom),
      fun hfull => congrArg (Host.Outcome.next <| s.setLink ·) (if_neg (Nat.not_lt.2 hfull))⟩
  · simp only [exec, execFrameReceived, h]
  · rw [exec_frameReceived hs hcodes, Link.judgeFrame_oversize _ h]
    rfl
  · have hbad : damaged cs = true ∨ ∀ f : Frame, Frame.ofWire (dataBytes cs) ≠ some f := by
      rcases hd with hstart | hinvalid | hd
      · exact .inl (damaged_of_mem (.inl hstart))
      · exact .inl (damaged_of_mem (.inr hinvalid))
      · refine .inr fun f hheld => ?_
        have hwire := Frame.wire_of_ofWire hheld
        have hlen := congrArg List.length hwire
        rw [Frame.wire_length] at hlen
        rcases hd with hshort | hnone
        · omega
        · exact hnone f (by omega) hwire
    rw [exec_frameReceived hs hcodes, Link.judgeFrame_damaged _ h hbad]
    rfl

end Sys2Proof.Settled

/-! # Parameters

The parameter that an id names, the value that is stored for a written one and its consequences, and the
defaults. Settles O18 and O19. -/

namespace Sys2Proof.Machine

/-! ### Payloads read back -/

/-- A signed field of four bytes is read back as its number (R175). -/
theorem ofBeInt_beInt {v : Int} (hlow : -2147483648 ≤ v) (hhigh : v ≤ 2147483647) :
    ofBeInt (beInt 4 v) = v := by
  have hpos : 0 ≤ v % 4294967296 := Int.emod_nonneg _ (by decide)
  have hlt : v % 4294967296 < 4294967296 := Int.emod_lt_of_pos _ (by decide)
  have hfield : ofBe (beInt 4 v) = (v % 4294967296).toNat := ofBe_be 4 (by omega)
  have hbytes : (beInt 4 v).length = 4 := be_length _ _
  rw [ofBeInt, hfield, hbytes, signedOf, BitVec.toInt_eq_toNat_bmod, BitVec.toNat_ofNat,
    Nat.mod_eq_of_lt (by omega), Int.toNat_of_nonneg hpos]
  exact (Int.emod_bmod v 4294967296).trans (Int.bmod_eq_of_le (by omega) (by omega))

/-! ### The parameter map -/

/-- No two parameters share an id, so the id finds its row (R164). -/
theorem Param.ofId_id (p : Param) : Param.ofId p.row.id = some p := by
  cases p <;> rfl

theorem Param.id_lt (p : Param) : p.row.id < 65536 := by
  cases p <;> decide

theorem Param.ofId_eq_none {n : Nat} (h : ∀ p : Param, p.row.id ≠ n) : Param.ofId n = none :=
  List.find?_eq_none.2 fun p _ => by simpa using h p

/-- What is stored after a store: the value at its parameter, and every other one as it was (R164). -/
theorem Params.get_put (ps : Params) (p q : Param) (v : Int) :
    (ps.put p v).get q = if q = p then v else ps.get q := by
  split
  case isTrue h => rw [h, Params.get_put_same]
  case isFalse h => exact Params.get_put_other ps p q v h

/-! ### The applied value -/

/-- GEN_RATE is applied as the largest listed rate not above the value, the lowest below it: the last rate
that the filter keeps is the one that the tests from the top reach first (R22). -/
theorem applyRate_eq (v : Int) :
    applyRate v =
      ((([48000, 96000, 192000, 384000, 768000] : List Int).filter (· ≤ v)).getLast?).getD 48000 := by
  simp only [applyRate, List.filter_cons, List.filter_nil, decide_eq_true_eq]
  split_ifs <;> rfl

/-- A value limited to a range is the nearest of its limits outside it (R164, step 3). -/
theorem clampTo_eq {lo hi : Int} (h : lo ≤ hi) (v : Int) :
    clampTo lo hi v = if v < lo then lo else if hi < v then hi else v := by
  unfold clampTo
  split
  · omega
  · split <;> omega

/-- The value stored for a written one, for GEN_RATE and for every other parameter (R22, R164). -/
theorem Param.applied_eq {p : Param} {v a : Int}
    (hrate : p = .genRate →
      a = ((([48000, 96000, 192000, 384000, 768000] : List Int).filter (· ≤ v)).getLast?).getD 48000)
    (hrange : p ≠ .genRate →
      a = if v < p.row.low then p.row.low else if p.row.high < v then p.row.high else v) :
    p.applied v = a := by
  unfold applied
  split
  case isTrue h => rw [applyRate_eq, hrate h]
  case isFalse h => rw [clampTo_eq (p.default_inRange.1.trans p.default_inRange.2), hrange h]

/-! ### The consequences of a write -/

/-- The lane after the value a is stored for a parameter, with the consequences of the owning block written
out: the templates, the gain table and a RUNNING lane's floor (R80, R133, R135). -/
def Lane.withParam (l : Lane) (p : Param) (a : Int) : Lane :=
  { l with
    params := l.params.put p a
    sprocket :=
      if p = .samplesPerPerf ∧ a ≠ l.params.get p then
        ⟨List.replicate a.toNat 0, List.replicate a.toNat 0, 0⟩ else l.sprocket
    line :=
      if p = .linePeriod ∧ a ≠ l.params.get p then
        ⟨List.replicate a.toNat 0, List.replicate a.toNat 0, 0⟩ else l.line
    gainTable :=
      if p = .hissOpen ∨ p = .hissDepth then
        (List.range 64).map (fun k : Nat =>
          if (if p = .hissOpen then a else l.params.get .hissOpen) ≤ k then (32768 : Int)
          else max
            (32768 / 2 ^ (if p = .hissDepth then a else l.params.get .hissDepth).toNat)
            (32768 * k / (if p = .hissOpen then a else l.params.get .hissOpen)))
      else l.gainTable
    run :=
      if p = .floorValue ∧ l.state = .running then
        { l.run with hiss := { l.run.hiss with floor := a } }
      else l.run }

theorem Template.resize_eq (t : Template) (old new : Int) :
    t.resize old new =
      if new ≠ old then ⟨List.replicate new.toNat 0, List.replicate new.toNat 0, 0⟩ else t := by
  rw [ite_not]
  rfl

/-- A parameter write is the store of the applied value with its consequences (R164, step 4). -/
theorem Lane.writeParam_eq (l : Lane) (p : Param) (v : Int) :
    l.writeParam p v = l.withParam p (p.applied v) := by
  unfold writeParam withParam
  generalize p.applied v = a
  cases p with
  | samplesPerPerf | linePeriod =>
    simp only [consequences, Template.resize_eq, Params.get_put_same, true_and]
    rfl
  | hissOpen | hissDepth =>
    simp only [consequences, gainCurve_eq, Params.get_put]
    rfl
  | floorValue =>
    simp only [consequences, Params.get_put_same, true_and]
    split <;> rfl
  | _ => rfl

/-! ### The two commands -/

/-- An id that is not in the map is refused by both commands (R164, R165). -/
theorem paramCommand_badParam {n : Nat} (hn : n < 65536) (hid : ∀ p : Param, p.row.id ≠ n) (v : Int)
    (w : Work) :
    setParamBody (be 2 n ++ beInt 4 v) w = (w, refuse .badParam) ∧
      getParamBody (be 2 n) w = (w, refuse .badParam) := by
  have hset : ofBe (field (be 2 n ++ beInt 4 v) 0 2) = n := ofBe_be 2 hn
  have hget : ofBe (field (be 2 n) 0 2) = n := ofBe_be 2 hn
  constructor
  · simp only [setParamBody, hset, Param.ofId_eq_none hid]
  · simp only [getParamBody, hget, Param.ofId_eq_none hid]

/-- SET_PARAM of a parameter of the map: refused on a RUNNING lane where it is STOPPED-only, and stored
otherwise (R164). -/
theorem setParamBody_param (p : Param) (v : Int) (w : Work) :
    setParamBody (be 2 p.row.id ++ beInt 4 v) w =
      if p.row.stoppedOnly = true ∧ w.lane.state = .running then (w, refuse .wrongState)
      else
        (w.setLane (w.lane.writeParam p (ofBeInt (beInt 4 v))),
          ⟨okOrClamped (decide (p.applied (ofBeInt (beInt 4 v)) ≠ ofBeInt (beInt 4 v))),
            be 2 p.row.id ++ beInt 4 (p.applied (ofBeInt (beInt 4 v)))⟩) := by
  have hid : ofBe (field (be 2 p.row.id ++ beInt 4 v) 0 2) = p.row.id := ofBe_be 2 p.id_lt
  have hvalue : field (be 2 p.row.id ++ beInt 4 v) 2 4 = beInt 4 v := rfl
  simp only [setParamBody, hid, hvalue, p.ofId_id, Bool.and_eq_true, decide_eq_true_eq]

theorem getParamBody_param (p : Param) (w : Work) :
    getParamBody (be 2 p.row.id) w = (w, ⟨.ok, be 2 p.row.id ++ beInt 4 (w.lane.params.get p)⟩) := by
  have hid : ofBe (field (be 2 p.row.id) 0 2) = p.row.id := ofBe_be 2 p.id_lt
  simp only [getParamBody, hid, p.ofId_id]
  rfl

/-- The lane's defaults written out (R7). -/
theorem Lane.toDefaults_eq (l : Lane) :
    l.toDefaults =
      { l with
        params := Params.defaults
        sprocket := ⟨List.replicate 500 0, List.replicate 500 0, 0⟩
        line := ⟨List.replicate 960 0, List.replicate 960 0, 0⟩
        predictor := [8192, -4096, 0, 0, 0, 0, 0, 0]
        gainTable := (List.range 64).map (fun k : Nat =>
          if 24 ≤ k then (32768 : Int) else max 8192 (32768 * (k : Int) / 24)) } := by
  rw [← gainCurve_default]
  rfl

end Sys2Proof.Machine

namespace Sys2Proof.Settled

open Sys2Proof.Machine

/-- Settles O18: the map row by row, and SET_PARAM by `setParamBody_param` and `Lane.writeParam_eq`. -/
theorem setParamStoresApplied : Obligations.SetParamStoresApplied := by
  refine ⟨by decide, Params.get_put, fun c s l p v a ht hl hlow hhigh hp hstate hrate hrange => ?_⟩
  have hn : (c.payload.length == 6) = true := by rw [hp]; rfl
  have hbody : setParamBody c.payload (s.work l) =
      ((s.work l).setLane (s.lanes[l].withParam p a),
        ⟨okOrClamped (decide (a ≠ v)), be 2 p.row.id ++ beInt 4 a⟩) := by
    rw [hp, setParamBody_param, ofBeInt_beInt hlow hhigh, Lane.writeParam_eq, Param.applied_eq hrate hrange]
    exact if_neg hstate
  have hstatus : (okOrClamped (decide (a ≠ v))).code = if a = v then 0 else 1 := by
    rw [okOrClamped_code, ← ite_not]
    simp
  rw [← hstatus]
  exact congrArg Host.Outcome.next (takeLane_setLane _ ht hl hn hbody)

/-- Settles O19: reads and refusals by the payload's id, and the defaults by `Lane.toDefaults_eq`. -/
theorem parametersReadAndDefaulted : Obligations.ParametersReadAndDefaulted := by
  refine ⟨fun c s l hl => ⟨fun ht p hp => ?_, fun ht n hn hid hp => ?_, fun ht n v hn hid hp => ?_,
    fun ht p v hstopped hrunning hp => ?_⟩, fun c s l ht hl hp hstate => ?_⟩
  · have hlen : (c.payload.length == 2) = true := by rw [hp]; rfl
    exact congrArg Host.Outcome.next
      (takeLane_unchanged .ok ht hl hlen (hp ▸ getParamBody_param p (s.work l)))
  · have hlen : (c.payload.length == 2) = true := by rw [hp]; rfl
    obtain ⟨-, hget⟩ := paramCommand_badParam hn hid 0 (s.work l)
    exact congrArg Host.Outcome.next (takeLane_unchanged .badParam ht hl hlen (hp ▸ hget))
  · have hlen : (c.payload.length == 6) = true := by rw [hp]; rfl
    obtain ⟨hset, -⟩ := paramCommand_badParam hn hid v (s.work l)
    exact congrArg Host.Outcome.next (takeLane_unchanged .badParam ht hl hlen (hp ▸ hset))
  · have hlen : (c.payload.length == 6) = true := by rw [hp]; rfl
    have hset := (setParamBody_param p v (s.work l)).trans (if_pos ⟨hstopped, hrunning⟩)
    exact congrArg Host.Outcome.next (takeLane_unchanged .wrongState ht hl hlen (hp ▸ hset))
  · refine ⟨Params.defaults, Params.get_defaults, ?_⟩
    rw [← Lane.toDefaults_eq]
    exact congrArg Host.Outcome.next (takeLane_setLane .ok ht hl (noPayload_of_nil hp) (if_neg hstate))

end Sys2Proof.Settled

/-! # Tables

The range that a command names, what READ_TABLE answers of it and what WRITE_TABLE stores in it. Settles O20
and O21. -/

namespace Sys2Proof.Machine

/-! ### The tables and their sizes -/

/-- The tables in the order of their ids (09, Tables). -/
def Table.listed : List Table :=
  [.sprocketActive, .sprocketLearning, .lineActive, .lineLearning, .predictor, .gain, .defectQueue]

theorem Table.ofId_eq (b : Byte) : Table.ofId b = Table.listed[b.toNat]? := rfl

/-- The byte of an id below seven names its table (R166). -/
theorem Table.ofId_ofNat {i : Nat} (hi : i < 7) : Table.ofId (BitVec.ofNat 8 i) = Table.listed[i]? := by
  rw [ofId_eq, BitVec.toNat_ofNat, Nat.mod_eq_of_lt (by omega)]

theorem Table.ofId_eq_none {b : Byte} (h : 7 ≤ b.toNat) : Table.ofId b = none :=
  List.getElem?_eq_none h

/-- The last id is that of DEFECT_QUEUE, and those from 7 on are no table's (R166). -/
theorem Table.ofId_notWritable {b : Byte} (h : 6 ≤ b.toNat) :
    Table.ofId b = none ∨ Table.ofId b = some .defectQueue := by
  rcases Nat.lt_or_eq_of_le h with hlt | heq
  · exact .inl (Table.ofId_eq_none hlt)
  · rw [ofId_eq, ← heq]
    exact .inr rfl

/-- The size of the table at a place of a list is at that place of the sizes (R166, R80). -/
theorem Table.size_eq {ts : List Table} {i : Nat} {t : Table} (h : ts[i]? = some t) (l : Lane) :
    t.size l = (ts.map (Table.size l)).getD i 0 := by
  rw [List.getD_eq_getElem?_getD, List.getElem?_map, h]
  rfl

/-- The tables that are written: those before DEFECT_QUEUE (R168). -/
def Table.written : List Table :=
  [.sprocketActive, .sprocketLearning, .lineActive, .lineLearning, .predictor, .gain]

/-- A written table is listed, is not DEFECT_QUEUE, and is an ACTIVE bank where its id is 0 or 2 (R79, R168). -/
theorem Table.written_eq {i : Nat} {t : Table} (hi : i < 6) (h : Table.written[i]? = some t) :
    Table.listed[i]? = some t ∧ t ≠ .defectQueue ∧ (t.stoppedOnly = true ↔ i = 0 ∨ i = 2) := by
  interval_cases i <;> cases h <;> decide

/-- A range that R166 allows. -/
theorem rangeOk_iff {size first count : Nat} :
    rangeOk size first count = true ↔ 1 ≤ count ∧ count ≤ 256 ∧ first + count ≤ size := by
  rw [rangeOk, Bool.and_eq_true_iff, Bool.and_eq_true_iff, decide_eq_true_iff, decide_eq_true_iff,
    decide_eq_true_iff, and_assoc]
  rfl

/-- A range that R166 does not allow. -/
theorem rangeOk_eq_false {size first count : Nat} (h : count = 0 ∨ 256 < count ∨ size < first + count) :
    rangeOk size first count = false := by
  rw [Bool.eq_false_iff, Ne, rangeOk_iff]
  omega

/-! ### The bytes of a table command -/

/-- The five bytes that name a table and a range: table id, first index, count (R166). -/
def rangeBytes (id : Byte) (first count : Nat) : List Byte := [id] ++ be 2 first ++ be 2 count

section RangeBytes

variable (id : Byte) {first count : Nat} (rest : List Byte)

theorem rangeBytes_id : (rangeBytes id first count ++ rest).getD 0 0 = id := rfl

theorem rangeBytes_first (h : first < 65536) :
    ofBe (field (rangeBytes id first count ++ rest) 1 2) = first := ofBe_be 2 h

theorem rangeBytes_count (h : count < 65536) :
    ofBe (field (rangeBytes id first count ++ rest) 3 2) = count := ofBe_be 2 h

theorem rangeBytes_length : (rangeBytes id first count ++ rest).length = 5 + rest.length := by
  rw [List.length_append]
  rfl

end RangeBytes

/-! ### READ_TABLE -/

section Read

variable {id : Byte} {t : Table} {first count : Nat} (hfirst : first < 65536) (hcount : count < 65536)
  (w : Work)

theorem readTableBody_badTable (hid : Table.ofId id = none) :
    readTableBody (rangeBytes id first count) w = (w, refuse .badTable) := by
  have hfield : (rangeBytes id first count).getD 0 0 = id := rfl
  simp only [readTableBody, hfield, hid]

include hfirst hcount

/-- READ_TABLE of a table of the list (R167). -/
theorem readTableBody_table (hid : Table.ofId id = some t) :
    readTableBody (rangeBytes id first count) w =
      if rangeOk (t.size w.lane) first count then
        (w, ⟨.ok, rangeBytes id first count ++
          (List.range count).flatMap fun i => t.entry w.lane (first + i)⟩)
      else (w, refuse .badRange) := by
  have hf := rangeBytes_first id (count := count) [] hfirst
  have hc := rangeBytes_count id (first := first) [] hcount
  have hi := rangeBytes_id id (first := first) (count := count) []
  rw [List.append_nil] at hf hc hi
  simp only [readTableBody, hf, hc, hi, hid]

end Read

/-- The 27 bytes of a Defect Queue item (R102). -/
theorem queueItem_some (r : DefectRecord) :
    queueItem (some r) =
      be 2 r.id.toNat ++ be 4 r.start.toNat ++ be 4 r.stop.toNat ++
        [causesByte r.causes, r.state.code, if r.overLength = true then 1 else 0] ++
        be 4 r.peak ++ be 4 r.sumA ++ be 4 r.sumB ++ repairBytes r.kind r.cleanHalf := by
  rw [← repairBytes_eq, ← Causes.code_eq]
  rfl

/-! ### WRITE_TABLE -/

/-- WRITE_TABLE of a table that is not written (R168). -/
theorem writeTableBody_badTable {payload : List Byte}
    (h : Table.ofId (payload.getD 0 0) = none ∨ Table.ofId (payload.getD 0 0) = some .defectQueue)
    (w : Work) : writeTableBody payload w = (w, refuse .badTable) := by
  unfold writeTableBody
  rcases h with h | h <;> simp only [h]

/-- WRITE_TABLE of a table that is written: range, length and lane state in this order, and then the clamped
values (R168). -/
theorem writeTableBody_table {id : Byte} {t : Table} {first count : Nat} (hfirst : first < 65536)
    (hcount : count < 65536) (hid : Table.ofId id = some t) (hq : t ≠ .defectQueue) (rest : List Byte)
    {vs : List Int} (hvs : writtenValues (rangeBytes id first count ++ rest) count = vs) (w : Work) :
    writeTableBody (rangeBytes id first count ++ rest) w =
      if rangeOk (t.size w.lane) first count = false then (w, refuse .badRange)
      else if rest.length ≠ 4 * count then (w, refuse .badLength)
      else if t.stoppedOnly = true ∧ w.lane.state = .running then (w, refuse .wrongState)
      else
        (w.setLane (w.lane.writeTable t first (vs.map t.clamp)),
          ⟨okOrClamped (decide (vs.map t.clamp ≠ vs)), []⟩) := by
  have hlen : (5 + rest.length ≠ 5 + 4 * count) = (rest.length ≠ 4 * count) := by
    rw [Ne, Nat.add_left_cancel_iff]
  subst hvs
  unfold writeTableBody
  simp only [rangeBytes_id, rangeBytes_first id rest hfirst, rangeBytes_count id rest hcount,
    rangeBytes_length, hlen, hid, Bool.not_eq_true', Bool.and_eq_true, decide_eq_true_eq]

/-! ### The written values -/

/-- Entry i of entries of four bytes each (R168). -/
theorem take_drop_flatMap_beInt {vs : List Int} {i : Nat} (h : i < vs.length) :
    ((vs.flatMap (beInt 4)).drop (4 * i)).take 4 = beInt 4 vs[i] := by
  have hbytes (v : Int) : (beInt 4 v).length = 4 := be_length _ _
  induction vs generalizing i with
  | nil => exact absurd h (Nat.not_lt_zero _)
  | cons v vs ih =>
    rw [List.flatMap_cons]
    cases i with
    | zero => exact List.take_left' (hbytes v)
    | succ i =>
      have hnext : 4 * (i + 1) = (beInt 4 v).length + 4 * i := by rw [hbytes]; ring
      rw [hnext, List.drop_length_add_append, List.getElem_cons_succ]
      exact ih (Nat.lt_of_succ_lt_succ h)

/-- The values of a payload are those it was formed of (R168). -/
theorem writtenValues_eq (id : Byte) (first : Nat) {count : Nat} {vs : List Int} (hn : vs.length = count)
    (hv : ∀ v ∈ vs, -2147483648 ≤ v ∧ v ≤ 2147483647) :
    writtenValues (rangeBytes id first count ++ vs.flatMap (beInt 4)) count = vs := by
  refine List.ext_getElem (by simp [writtenValues, hn]) fun i hi hi' => ?_
  have hfield : field (rangeBytes id first count ++ vs.flatMap (beInt 4)) (5 + 4 * i) 4 =
      beInt 4 vs[i] := by
    have hheader : (rangeBytes id first count).length = 5 := rfl
    rw [field, ← hheader, List.drop_length_add_append, take_drop_flatMap_beInt hi']
  obtain ⟨hlow, hhigh⟩ := hv _ (List.getElem_mem hi')
  simp only [writtenValues, List.getElem_map, List.getElem_range, hfield, ofBeInt_beInt hlow hhigh]

/-- A list after values are written from an index upward, entry by entry. -/
theorem getElem?_overwrite {l vs : List Int} {first : Nat} (h : first + vs.length ≤ l.length) (k : Nat) :
    (overwrite l first vs)[k]? =
      if first ≤ k ∧ k < first + vs.length then vs[k - first]? else l[k]? := by
  induction vs generalizing l first with
  | nil => rw [overwrite, if_neg (by simp)]
  | cons v vs ih =>
    rw [List.length_cons] at h ⊢
    rw [overwrite, ih (by rw [List.length_set]; omega)]
    rcases Nat.lt_trichotomy k first with hk | rfl | hk
    · rw [if_neg (by omega), if_neg (by omega), List.getElem?_set_ne (by omega)]
    · rw [if_neg (by omega), if_pos (by omega), List.getElem?_set_self (by omega), Nat.sub_self]
      rfl
    · obtain ⟨j, rfl⟩ : ∃ j, k = first + 1 + j := ⟨k - (first + 1), by omega⟩
      have hj : first + 1 + j - (first + 1) = j := by omega
      have hj' : first + 1 + j - first = j + 1 := by omega
      rw [hj, hj', List.getElem?_cons_succ, List.getElem?_set_ne (by omega)]
      by_cases hin : j < vs.length
      · rw [if_pos (by omega), if_pos (by omega)]
      · rw [if_neg (by omega), if_neg (by omega)]

section Written

variable {t : Table} (hq : t ≠ .defectQueue) (l : Lane) (first : Nat) (vs : List Int)

/-- The clamp of a table limits a value to its range (R78, R79, R125, R135). -/
theorem Table.clamp_eq (v : Int) : t.clamp v = max t.range.1 (min t.range.2 v) := by
  cases t <;> rfl

theorem Table.clamp_eq_self_iff (v : Int) : t.clamp v = v ↔ t.range.1 ≤ v ∧ v ≤ t.range.2 := by
  have hrange : t.range.1 ≤ t.range.2 := by cases t <;> decide
  rw [clamp_eq]
  omega

/-- A write is answered OK where every value lies in the table's range, and CLAMPED otherwise (R168). -/
theorem Table.written_status :
    (okOrClamped (decide (vs.map t.clamp ≠ vs))).code =
      if ∀ v ∈ vs, t.range.1 ≤ v ∧ v ≤ t.range.2 then 0 else 1 := by
  have hkept : vs.map t.clamp = vs ↔ ∀ v ∈ vs, t.range.1 ≤ v ∧ v ≤ t.range.2 := by
    conv_lhs => rhs; rw [← List.map_id vs]
    simp only [List.map_inj_left, id_eq, clamp_eq_self_iff]
  rw [okOrClamped_code, ← ite_not]
  simp only [ne_eq, decide_not, Bool.not_eq_true', decide_eq_false_iff_not, not_not, hkept]

include hq in
/-- A written table holds the values, a LEARNING bank 256 times them (R78, R79). -/
theorem Lane.writeTable_values :
    t.values (l.writeTable t first vs) = overwrite (t.values l) first (vs.map t.stored) := by
  have hsame : vs.map (fun v => v) = vs := List.map_id' vs
  cases t with
  | sprocketLearning | lineLearning => rfl
  | defectQueue => exact absurd rfl hq
  | sprocketActive | lineActive | predictor | gain =>
    exact congrArg (overwrite _ first) hsame.symm

/-- Every other table is as before. -/
theorem Lane.writeTable_otherValues {u : Table} (hu : u ≠ t) :
    u.values (l.writeTable t first vs) = u.values l := by
  cases t <;> cases u <;> first | rfl | exact absurd rfl hu

/-- A write clears the cycle count of its LEARNING bank, and no other (R78). -/
theorem Lane.writeTable_cycles :
    ((l.writeTable t first vs).sprocket.cycles, (l.writeTable t first vs).line.cycles) =
      t.clearedCount l := by
  cases t <;> rfl

/-- A write changes nothing of the lane but its tables. -/
theorem Lane.writeTable_onlyTables :
    l.writeTable t first vs =
      { l with
        sprocket := (l.writeTable t first vs).sprocket
        line := (l.writeTable t first vs).line
        predictor := (l.writeTable t first vs).predictor
        gainTable := (l.writeTable t first vs).gainTable } := by
  cases t <;> rfl

include hq in
/-- The entries of a written table: in the range the clamped values as the table stores them, and outside it
what they were (R78, R79, R125, R135). -/
theorem Lane.getElem?_writeTable (h : first + vs.length ≤ (t.values l).length) (k : Nat) :
    (t.values (l.writeTable t first (vs.map t.clamp)))[k]? =
      if first ≤ k ∧ k < first + vs.length then
        (vs[k - first]?).map (fun v => t.stored (max t.range.1 (min t.range.2 v)))
      else (t.values l)[k]? := by
  rw [writeTable_values hq, List.map_map, getElem?_overwrite (by rwa [List.length_map]), List.length_map,
    List.getElem?_map]
  simp only [Function.comp_def, Table.clamp_eq]

end Written

end Sys2Proof.Machine

namespace Sys2Proof.Settled

open Sys2Proof.Machine

/-- Settles O20: the body by `readTableBody_table`, and each entry by the table that holds it. -/
theorem readTableReturnsRange : Obligations.ReadTableReturnsRange := by
  refine fun c s l ht hl => ⟨fun b first count hb hp => ?_,
    fun i t first count size hi hsize hfirst hcount hp => ?_⟩
  · have hlen : (c.payload.length == 5) = true := by rw [hp]; rfl
    have hbody : readTableBody c.payload (s.work l) = (s.work l, refuse .badTable) :=
      hp ▸ readTableBody_badTable _ (Table.ofId_eq_none hb)
    exact congrArg Host.Outcome.next (takeLane_unchanged .badTable ht hl hlen hbody)
  · have hlen : (c.payload.length == 5) = true := by rw [hp]; rfl
    have hid : Table.ofId (BitVec.ofNat 8 i.val) = some t := (Table.ofId_ofNat i.isLt).trans hi
    have hsize' : t.size s.lanes[l] = size := (Table.size_eq hi _).trans hsize.symm
    have hbytes : c.payload = rangeBytes (BitVec.ofNat 8 i.val) first count := hp
    have hbody := readTableBody_table hfirst hcount (s.work l) hid
    rw [← hbytes, State.work_lane, hsize'] at hbody
    refine ⟨fun hlow hhigh hin => ?_, fun hbad => ?_⟩
    · rw [if_pos (rangeOk_iff.2 ⟨hlow, hhigh, hin⟩)] at hbody
      refine congrArg Host.Outcome.next ((takeLane_unchanged .ok ht hl hlen hbody).trans ?_)
      refine congrArg (fun data => s.answered 0x22 c 0 (_ ++ data)) (List.flatMap_congr fun k _ => ?_)
      cases t with
      | defectQueue =>
        simp only [Table.entry]
        generalize (if s.lanes[l].state = .running then s.lanes[l].run.queue.records[first + k]?
          else none) = item
        cases item with
        | none => rfl
        | some r => exact queueItem_some r
      | _ => rfl
    · rw [rangeOk_eq_false hbad] at hbody
      exact congrArg Host.Outcome.next (takeLane_unchanged .badRange ht hl hlen hbody)

/-- Settles O21: the checks by `writeTableBody_table`, and the stored range by `Lane.getElem?_writeTable`. -/
theorem writeTableStoresRange : Obligations.WriteTableStoresRange := by
  refine fun c s l ht hl => ⟨fun b rest hb hrest hp => ?_,
    fun i t first count size rest hi hsize hfirst hcount hp => ?_⟩
  · have hlen : decide (5 ≤ c.payload.length) = true := by
      rw [hp, List.length_cons, decide_eq_true_iff]
      omega
    have hid : Table.ofId (c.payload.getD 0 0) = none ∨
        Table.ofId (c.payload.getD 0 0) = some .defectQueue := by
      rw [hp]
      exact Table.ofId_notWritable hb
    exact congrArg Host.Outcome.next
      (takeLane_unchanged .badTable ht hl hlen (writeTableBody_badTable hid (s.work l)))
  · obtain ⟨hlisted, hq, hstopped⟩ := Table.written_eq i.isLt hi
    have hid : Table.ofId (BitVec.ofNat 8 i.val) = some t :=
      (Table.ofId_ofNat (i.isLt.trans (by decide))).trans hlisted
    have hsize' : t.size s.lanes[l] = size := (Table.size_eq hi _).trans hsize.symm
    have hbytes : c.payload = rangeBytes (BitVec.ofNat 8 i.val) first count ++ rest := hp
    have hlen : decide (5 ≤ c.payload.length) = true := by
      rw [hbytes, rangeBytes_length, decide_eq_true_iff]
      exact Nat.le_add_right _ _
    have hbody := writeTableBody_table hfirst hcount hid hq rest rfl (s.work l)
    rw [← hbytes, State.work_lane, hsize'] at hbody
    refine ⟨fun hbad => ?_, fun hlow hhigh hin => ?_⟩
    · rw [if_pos (rangeOk_eq_false hbad)] at hbody
      exact congrArg Host.Outcome.next (takeLane_unchanged .badRange ht hl hlen hbody)
    · rw [if_neg (by simp [rangeOk_iff.2 ⟨hlow, hhigh, hin⟩])] at hbody
      refine ⟨fun hwrong => ?_, fun vs hn hv hvs => ?_⟩
      · rw [if_pos hwrong] at hbody
        exact congrArg Host.Outcome.next (takeLane_unchanged .badLength ht hl hlen hbody)
      · have hfull : rest.length = 4 * count := by
          have hbytes (v : Int) : (beInt 4 v).length = 4 := be_length _ _
          simp [hvs, hbytes, hn, Nat.mul_comm]
        have hvalues : writtenValues c.payload count = vs := by
          rw [hbytes, hvs, writtenValues_eq _ _ hn hv]
        rw [if_neg (not_not.2 hfull), hvalues] at hbody
        refine ⟨fun hactive hrunning => ?_, fun hstate hcells => ?_⟩
        · rw [if_pos ⟨hstopped.2 hactive, hrunning⟩] at hbody
          exact congrArg Host.Outcome.next (takeLane_unchanged .wrongState ht hl hlen hbody)
        · rw [if_neg fun ⟨hs, hr⟩ => hstate (hstopped.1 hs) hr] at hbody
          refine ⟨s.lanes[l].writeTable t first (vs.map t.clamp), ?_, Lane.writeTable_onlyTables _ _ _,
            fun u hu => Lane.writeTable_otherValues _ _ _ hu, Lane.writeTable_cycles _ _ _, ?_, fun k => ?_⟩
          · rw [← Table.written_status]
            exact congrArg Host.Outcome.next (takeLane_setLane _ ht hl hlen hbody)
          · rw [Lane.writeTable_values hq, overwrite_length]
          · rw [← hn]
            exact Lane.getElem?_writeTable hq _ _ _ (by rwa [hcells, hn]) k

end Sys2Proof.Settled

/-! # The step and the command decoder

What a step takes, when a frame is taken, its checks in their order, and the device's own commands. Settles
O1, O2, O3, O4 and O8. -/

namespace Sys2Proof.Machine

/-! ### The idle character -/

/-- An idle character is K28.5 in the column of the disparity, and turns it (R158). -/
theorem Link.transmit_idle (k : Link) :
    k.transmit [.idle] = { k with
      txLine := [if k.txDisparity = .minus then 0b0011111010 else 0b1100000101]
      txDisparity := if k.txDisparity = .minus then .plus else .minus } := by
  have hcode (d : Disparity) :
      lineCodes d [.idle] = [if d = .minus then 0b0011111010 else 0b1100000101] := by cases d <;> decide
  have hturn (d : Disparity) : lineDisparity d [.idle] = if d = .minus then .plus else .minus := by
    cases d <;> decide
  rw [transmit, hcode, hturn]

/-! ### The rows of the commands -/

/-- Every device row takes a command to the device without payload (R162). -/
theorem exec_deviceRow {k : Byte} {row : Command → Instr} (h : (k, row) ∈ deviceRows) :
    ∃ body : State → State × Answer, ∀ (c : Command) (s : State),
      exec (row c) s = .next (takeDevice k 0 c body s) := by
  simp only [deviceRows, List.mem_cons, Prod.mk.injEq, List.not_mem_nil, or_false] at h
  rcases h with ⟨rfl, rfl⟩ | ⟨rfl, rfl⟩ | ⟨rfl, rfl⟩ | ⟨rfl, rfl⟩ <;> exact ⟨_, fun _ _ => rfl⟩

/-- Every lane row of one length takes a command of that length to a lane (R8, R162). -/
theorem exec_laneRow {k : Byte} {n : Nat} {row : Command → Instr} (h : (k, n, row) ∈ laneRows) :
    ∃ body : Command → Work → Work × Answer, ∀ (c : Command) (s : State),
      exec (row c) s = .next (takeLane k (fun m => m == n) c (body c) s) := by
  simp only [laneRows, List.mem_cons, Prod.mk.injEq, List.not_mem_nil, or_false] at h
  rcases h with ⟨rfl, rfl, rfl⟩ | ⟨rfl, rfl, rfl⟩ | ⟨rfl, rfl, rfl⟩ | ⟨rfl, rfl, rfl⟩ | ⟨rfl, rfl, rfl⟩ |
    ⟨rfl, rfl, rfl⟩ | ⟨rfl, rfl, rfl⟩ | ⟨rfl, rfl, rfl⟩ | ⟨rfl, rfl, rfl⟩ | ⟨rfl, rfl, rfl⟩ |
    ⟨rfl, rfl, rfl⟩ | ⟨rfl, rfl, rfl⟩ | ⟨rfl, rfl, rfl⟩ <;> exact ⟨_, fun _ _ => rfl⟩

/-- A command of the catalogue is a device's, a lane's of one length, SET_NOTICE_MASK or WRITE_TABLE. -/
theorem commandRows_cases {k : Byte} {row : Command → Instr} (h : (k, row) ∈ commandRows) :
    (k, row) ∈ deviceRows ∨ (∃ n, (k, n, row) ∈ laneRows) ∨ (k = 0x17 ∧ row = .setNoticeMask) ∨
      (k = 0x23 ∧ row = .writeTable) := by
  rcases List.mem_append.1 h with h | h
  · rcases List.mem_append.1 h with h | h
    · exact .inl h
    · obtain ⟨⟨k, n, row⟩, hrow, he⟩ := List.mem_map.1 h
      cases he
      exact .inr (.inl ⟨n, hrow⟩)
  · simp only [List.mem_cons, Prod.mk.injEq, List.not_mem_nil, or_false] at h
    exact .inr (.inr h)

/-- SET_NOTICE_MASK by its lane field: the device's at 255, and a lane's otherwise (R172). -/
theorem exec_setNoticeMask_device {c : Command} (h : c.lane = 255) (s : State) :
    exec (.setNoticeMask c) s = .next (takeDevice 0x17 1 c
      (fun s => (s.setLink { s.link with deviceMask := (c.payload.getD 0 0).getLsbD 0 }, ⟨.ok, []⟩)) s) :=
  congrArg Host.Outcome.next (if_pos h)

theorem exec_setNoticeMask_lane {c : Command} (h : c.lane ≠ 255) (s : State) :
    exec (.setNoticeMask c) s = .next (takeLane 0x17 (fun n => n == 1) c
      (fun w => (w.setLane { w.lane with mask := c.payload.getD 0 0 }, ⟨.ok, []⟩)) s) :=
  congrArg Host.Outcome.next (if_neg h)

/-- A command row changes nothing when its frame cannot be taken (assumption 3). -/
theorem exec_notTaken {k : Byte} {row : Command → Instr} {c : Command} {s : State}
    (h : (k, row) ∈ commandRows) (ht : ¬s.Takes k c) : exec (row c) s = .next s := by
  rcases commandRows_cases h with hdevice | ⟨n, hlane⟩ | ⟨rfl, rfl⟩ | ⟨rfl, rfl⟩
  · obtain ⟨body, hbody⟩ := exec_deviceRow hdevice
    rw [hbody, takeDevice_notTaken ht]
  · obtain ⟨body, hbody⟩ := exec_laneRow hlane
    rw [hbody, takeLane_notTaken ht]
  · by_cases hl : c.lane = 255
    · rw [exec_setNoticeMask_device hl, takeDevice_notTaken ht]
    · rw [exec_setNoticeMask_lane hl, takeLane_notTaken ht]
  · exact congrArg Host.Outcome.next (takeLane_notTaken ht _)

/-- When the decoder can take a frame (R9, R10, R161, assumption 2). -/
theorem State.canTake_iff (s : State) (f : Frame) :
    s.canTake f = true ↔
      s.resetHeld = false ∧ s.link.taking = true ∧ s.link.waiting = none ∧ f.payload.length ≤ 1280 ∧
        (s.link.inbound = [] ∨ ∃ rest, s.link.inbound = f :: rest) := by
  have hsize : f.payload.length ≤ Config.inboundPayload ↔ f.payload.length ≤ 1280 := Iff.rfl
  unfold canTake
  cases s.link.inbound with
  | nil => simp [hsize, and_assoc]
  | cons g q => simp [hsize, and_assoc]

/-! ### A device command answered -/

/-- A device command whose body changes nothing: the reply waits. -/
theorem takeDevice_unchanged {k : Byte} {len : Nat} {c : Command} {s : State}
    {body : State → State × Answer} {data : List Byte} (st : Status) (ht : s.Takes k c) (hl : c.lane = 255)
    (hn : c.payload.length = len) (hb : body s = (s, ⟨st, data⟩)) :
    takeDevice k len c body s = s.answered k c st.code data := by
  rw [takeDevice_body ht hl hn, hb, reply_eq_answered]

theorem length_zero_of_nil {c : Command} (h : c.payload = []) : c.payload.length = 0 := by rw [h]; rfl

theorem identity_eq :
    identity = [0x08, 0x40, 1, 8, 8, 0x05, 0x00, 0x00, 0x01, 0x00, 0x00, 0x10, 0x00, 0x0C, 0x80] := by
  decide

/-! ### The snapshot -/

theorem be_one_toNat (b : Byte) : be 1 b.toNat = [b] := by
  simp [be]

/-- The snapshot of a RUNNING lane (R169). -/
theorem Lane.snapshot_running {l : Lane} (h : l.state = .running) :
    l.snapshot =
      [2, l.run.tracker.state.code, l.front.signal.code] ++ beInt 4 l.run.tracker.e ++
        be 2 (l.run.ring.tail.length + l.run.ring.window.length) ++ be 1 l.run.queue.records.length ++
        [l.slotA.code, l.slotB.code] ++ be 1 l.sprocket.cycles ++ be 1 l.line.cycles ++ [l.runNumber] := by
  simp only [snapshot, shownTracker, shownE, h, if_true, decide_true, be_one_toNat]
  rfl

/-- The snapshot of a lane that is not RUNNING: ACQUIRING, E at 256·NOM, an empty ring and queue (R25, R50,
R97, R169). -/
theorem Lane.snapshot_notRunning {l : Lane} (h : l.state ≠ .running) :
    l.snapshot =
      [l.state.code, 0, l.front.signal.code] ++ beInt 4 (256 * l.params.get .nom) ++ [0, 0, 0] ++
        [l.slotA.code, l.slotB.code] ++ be 1 l.sprocket.cycles ++ be 1 l.line.cycles ++ [l.runNumber] := by
  have hempty : be 2 0 ++ be 1 0 = [0, 0, 0] := by decide
  rw [← hempty]
  simp only [snapshot, shownTracker, shownE, h, if_false, decide_false, Bool.false_eq_true, be_one_toNat,
    List.append_assoc]
  rfl

end Sys2Proof.Machine

namespace Sys2Proof.Settled

open Sys2Proof.Machine

/-- Settles O1: the two cases of `step`, and the idle character by `Link.transmit_idle`. -/
theorem stepTakesFrontCommand : Obligations.StepTakesFrontCommand := by
  refine ⟨fun c rest s h => by simp only [step, h], fun s h => ?_⟩
  have hidle : step s = .next (idleTick s) := by simp only [step, h]
  rw [hidle]
  refine ⟨fun hs ho => ?_, fun hstays => ?_⟩
  · rw [idleTick, if_neg (by simp [hs, ho]), Link.transmit_idle]
    rfl
  · rw [idleTick, if_pos (by simpa using hstays)]

/-- Settles O2: `State.canTake_iff`, and `exec_notTaken` by the kinds of row in the catalogue. -/
theorem commandsTakenInTurn : Obligations.CommandsTakenInTurn :=
  fun k _ c s h => ⟨s.canTake_iff (commandFrame k c), exec_notTaken h⟩

/-- Settles O3: the rows by `exec_deviceRow` and `exec_laneRow`, and their checks by the laws of
`takeDevice` and `takeLane`. -/
theorem frameChecksInOrder : Obligations.FrameChecksInOrder := by
  refine ⟨fun k c s hk ht => ?_, fun k row c s hrow ht => ?_, fun k n row c s hrow ht => ?_, fun c s ht => ?_,
    fun c s ht => ?_⟩
  · have hunknown : isUnknownKind k = true := by
      rw [isUnknownKind, Bool.not_eq_true', List.contains_eq_mem, decide_eq_false_iff_not]
      exact hk
    exact congrArg Host.Outcome.next (if_pos (Bool.and_eq_true_iff.2 ⟨hunknown, ht⟩))
  · obtain ⟨body, hbody⟩ := exec_deviceRow hrow
    rw [hbody]
    exact ⟨fun hl => congrArg Host.Outcome.next (takeDevice_badLane ht hl body),
      fun hl hp => congrArg Host.Outcome.next
        (takeDevice_badLength ht hl (mt List.length_eq_zero_iff.1 hp) body)⟩
  · obtain ⟨body, hbody⟩ := exec_laneRow hrow
    rw [hbody]
    refine ⟨fun hl => congrArg Host.Outcome.next (takeLane_badLane ht hl _), fun hl hn => ?_⟩
    have hlen : (c.payload.length == n) = false := beq_false_of_ne hn
    exact congrArg Host.Outcome.next (takeLane_badLength ht hl hlen _)
  · refine ⟨fun hl hd => ?_, fun hl hn => ?_⟩
    · rw [exec_setNoticeMask_lane hd, takeLane_badLane ht hl]
      rfl
    · by_cases hd : c.lane = 255
      · rw [exec_setNoticeMask_device hd, takeDevice_badLength ht hd hn]
        rfl
      · have hlen : (c.payload.length == 1) = false := beq_false_of_ne hn
        rw [exec_setNoticeMask_lane hd, takeLane_badLength ht (hl.resolve_right hd) hlen]
        rfl
  · exact ⟨fun hl => congrArg Host.Outcome.next (takeLane_badLane ht hl _),
      fun hl hn => congrArg Host.Outcome.next
        (takeLane_badLength ht hl (decide_eq_false (Nat.not_le.2 hn)) _)⟩

/-- Settles O4: a device command that changes nothing, with the identity written out. -/
theorem identifyReplies : Obligations.IdentifyReplies := by
  intro c s ht hl hp
  rw [← identity_eq]
  exact congrArg Host.Outcome.next (takeDevice_unchanged .ok ht hl (length_zero_of_nil hp) rfl)

/-- Settles O8: the two device commands by their bodies, and the snapshot by the lane's state. -/
theorem statisticsAndSnapshot : Obligations.StatisticsAndSnapshot := by
  refine ⟨fun c s hl hp => ⟨fun ht => ?_, fun ht => ?_⟩, fun c s l ht hl hp => ?_⟩
  · exact congrArg Host.Outcome.next (takeDevice_unchanged .ok ht hl (length_zero_of_nil hp) rfl)
  · simp only [exec, execClearLinkStats, takeDevice_body ht hl (length_zero_of_nil hp)]
    simp [State.reply, State.setLink, replyTo, commandFrame, Status.code, hl]
  · have hquery : exec (.queryLane c) s = .next (s.answered 0x16 c 0 s.lanes[l].snapshot) :=
      congrArg Host.Outcome.next (takeLane_unchanged .ok ht hl (noPayload_of_nil hp) rfl)
    rw [hquery]
    exact ⟨fun hr => by rw [Lane.snapshot_running hr], fun hr => by rw [Lane.snapshot_notRunning hr]⟩

end Sys2Proof.Settled

/-! # Replies, blocks, reports and notices

What enters the outbound queue and what is sent of it, the notices of the latches and their masks. Settles
O11 and O12. -/

namespace Sys2Proof.Machine

/-! ### Admission -/

theorem fits_eq_false {q : List Frame} {f : Frame} (h : 65536 < usedBytes q + (f.payload.length + 7)) :
    fits q f = false := by
  rw [Bool.eq_false_iff, Ne, fits_iff]
  exact Nat.not_le.2 h

/-- The reply that waits enters where it fits, and waits on otherwise (R171, assumption 3). -/
theorem exec_replyEntry {s : State} {f : Frame} (hs : s.resetHeld = false) (hw : s.link.waiting = some f) :
    exec .replyEntry s = .next
      (if fits s.link.outbound f then
        s.setLink { s.link with outbound := s.link.outbound ++ [f], waiting := none }
      else s) := by
  simp only [exec, execReplyEntry, hw, hs, Bool.not_false, Bool.true_and]

/-- A defect report enters while 4,096 bytes stay free behind its 25 (R101). -/
theorem offerReport_sent {w : Work} {g : BitVec 16} {r : DefectRecord}
    (h : usedBytes w.outbound + 25 + 4096 ≤ 65536) :
    offerReport w g r = w.enqueue (defectReport w.id g r) :=
  if_pos ((fitsReserve_iff _ _).2 (by rwa [defectReport_length]))

/-- A report that does not fit is dropped, counted and raised (R101). -/
theorem offerReport_dropped {w : Work} {g : BitVec 16} {r : DefectRecord}
    (h : 65536 < usedBytes w.outbound + 25 + 4096) :
    offerReport w g r =
      (w.count fun t => { t with reportsDropped := min (t.reportsDropped + 1) 4294967295 }).raise
        .reportDrop :=
  if_neg fun hf => by
    rw [fitsReserve_iff, defectReport_length] at hf
    omega

/-! ### Sending -/

theorem isResetReply_iff (f : Frame) : isResetReply f = true ↔ f.kind = 0x82 ∧ f.payload = [0] := by
  simp [isResetReply, Status.code]

/-- The front frame sent, unless it is the reply after which the part resets (R10, R170). -/
theorem exec_frameSent {s : State} {f : Frame} {rest : List Frame} (hs : s.resetHeld = false)
    (ho : s.link.outbound = f :: rest) (hf : s.link.taking = true ∨ f.kind ≠ 0x82 ∨ f.payload ≠ [0]) :
    exec .frameSent s = .next (s.sent f rest) := by
  have hreset : (!s.link.taking && isResetReply f) = false := by
    rw [Bool.eq_false_iff, Ne, Bool.and_eq_true_iff, isResetReply_iff, Bool.not_eq_true']
    rintro ⟨htaking, hkind, hpayload⟩
    rcases hf with h | h | h
    · simp [htaking] at h
    · exact h hkind
    · exact h hpayload
  simp only [exec, execFrameSent, ho, hs, hreset, Bool.false_eq_true, if_false]

/-- A frame's line written out: start character, bytes, check, end character (R158, R159). -/
theorem Frame.line_eq (f : Frame) :
    f.line = [.start] ++
      ([f.kind, f.tag, f.lane] ++ be 2 f.payload.length ++ f.payload ++
        be 2 (crc16 ([f.kind, f.tag, f.lane] ++ be 2 f.payload.length ++ f.payload)).toNat).map .data ++
      [.stop] := by
  have hbody : [f.kind, f.tag, f.lane] ++ be 2 f.payload.length ++ f.payload = f.body := by
    rw [List.append_assoc]
    rfl
  rw [hbody]
  rfl

/-! ### Notices -/

/-- The tracker state shown is ACQUIRING's code for a lane that is not RUNNING (R25). -/
theorem Lane.shownTracker_code (l : Lane) :
    l.shownTracker.code = if l.state = .running then l.run.tracker.state.code else 0 :=
  apply_ite TrackerState.code _ _ _

/-- A lane's notice written out (R173). -/
theorem laneNotice_eq (id : LaneId) (l : Lane) :
    laneNotice id l = ⟨0x42, 0, BitVec.ofNat 8 id.val,
      [l.latch, if l.state = .running then l.run.tracker.state.code else 0, l.front.signal.code,
        l.slotA.code, l.slotB.code]⟩ := by
  rw [← Lane.shownTracker_code]
  rfl

/-- A lane's notice is formed of a latch that is not empty, where it fits (R171, R173). -/
theorem formLaneNotice_formed {id : LaneId} {w : Work} (hl : w.lane.latch ≠ 0)
    (hroom : usedBytes w.outbound + 12 ≤ 65536) :
    formLaneNotice id w = (w.enqueue (laneNotice id w.lane)).setLane { w.lane with latch := 0 } :=
  if_pos (Bool.and_eq_true_iff.2 ⟨decide_eq_true hl, (fits_iff _ _).2 hroom⟩)

/-- Otherwise it is not formed, and nothing changes (R173, assumption 3). -/
theorem formLaneNotice_notFormed {id : LaneId} {w : Work}
    (h : w.lane.latch = 0 ∨ 65536 < usedBytes w.outbound + 12) : formLaneNotice id w = w := by
  refine if_neg fun hformed => ?_
  obtain ⟨hl, hfits⟩ := Bool.and_eq_true_iff.1 hformed
  rcases h with hempty | hfull
  · exact of_decide_eq_true hl hempty
  · exact absurd ((fits_iff _ _).1 hfits) (Nat.not_le.2 hfull)

/-- The device's notice is formed of a latch that is set, where it fits (R171, R173). -/
theorem formDeviceNotice_formed {s : State} (hs : s.resetHeld = false) (hl : s.link.deviceLatch = true)
    (hroom : usedBytes s.link.outbound + 8 ≤ 65536) :
    formDeviceNotice s =
      s.setLink { s.link with outbound := s.link.outbound ++ [deviceNotice], deviceLatch := false } := by
  have hfits : fits s.link.outbound deviceNotice = true := (fits_iff _ _).2 hroom
  exact if_pos (by simp [hs, hl, hfits])

theorem formDeviceNotice_notFormed {s : State}
    (h : s.link.deviceLatch = false ∨ 65536 < usedBytes s.link.outbound + 8) : formDeviceNotice s = s := by
  refine if_neg ?_
  rcases h with hempty | hfull
  · simp [hempty]
  · have hfits : fits s.link.outbound deviceNotice = false := fits_eq_false hfull
    simp [hfits]

end Sys2Proof.Machine

namespace Sys2Proof.Settled

open Sys2Proof.Machine

/-- Settles O11: each admission by its bound, and the sending by `exec_frameSent`. -/
theorem outboundAdmissionAndSending : Obligations.OutboundAdmissionAndSending := by
  refine ⟨fun s f hs hw => ⟨fun hroom => ?_, fun hfull => ?_⟩,
    fun w d p vs => ⟨offerBlock_sent, offerBlock_dropped⟩,
    fun w g r => ⟨offerReport_sent, offerReport_dropped⟩, fun s f rest hs ho hf => ⟨?_, f.line_eq, ?_⟩⟩
  · rw [exec_replyEntry hs hw, if_pos ((fits_iff _ _).2 hroom)]
    rfl
  · rw [exec_replyEntry hs hw, fits_eq_false hfull]
    rfl
  · rw [exec_frameSent hs ho hf]
    rfl
  · rw [ho, usedBytes_cons]

/-- Settles O12: the notices by whether they are formed, and the mask by the command's lane field. -/
theorem noticesAndMasks : Obligations.NoticesAndMasks := by
  refine ⟨fun s l hs => ⟨fun hl hroom => ?_, fun h => ?_⟩, fun s hs => ⟨fun hl hroom => ?_, fun h => ?_⟩,
    fun c s b ht hp => ⟨fun l hl => ?_, fun hl => ?_⟩⟩
  · rw [← laneNotice_eq]
    refine congrArg Host.Outcome.next ((laneEvent_high hs l _).trans ?_)
    rw [formLaneNotice_formed hl hroom]
    rfl
  · exact congrArg Host.Outcome.next (laneEvent_ignored (formLaneNotice_notFormed h))
  · exact congrArg Host.Outcome.next (formDeviceNotice_formed hs hl hroom)
  · exact congrArg Host.Outcome.next (formDeviceNotice_notFormed h)
  · have hlane : c.lane ≠ 255 := fun h => by
      have hlt := l.isLt
      rw [h] at hl
      exact absurd hl (by simp; omega)
    have hlen : (c.payload.length == 1) = true := by rw [hp]; rfl
    rw [exec_setNoticeMask_lane hlane, hp]
    exact congrArg Host.Outcome.next (takeLane_setLane .ok ht hl hlen rfl)
  · have hlen : c.payload.length = 1 := by rw [hp]; rfl
    have hbit : decide (b.toNat % 2 = 1) = b.getLsbD 0 := (Nat.testBit_zero _).symm
    rw [exec_setNoticeMask_device hl, takeDevice_body ht hl hlen, hp, hbit]
    simp [State.reply, State.setLink, replyTo, commandFrame, Status.code, hl]

end Sys2Proof.Settled

/-! # Rows that name an event

A row that names an event carries its cause and is the whole of the cause's step, or changes nothing
(assumption 4). Settles O29. -/

namespace Sys2Proof.Machine

/-- The row of an event is the event named inside its cause's step. -/
theorem exec_eventRow (e : StepEvent) (c : Cause) (s : State) :
    exec (e.row c) s = .next (namedEvent e c s) := by
  cases e <;> rfl

/-- A named event that does not come about inside its cause's step changes nothing (assumption 4). -/
theorem namedEvent_of_not_mem {e : StepEvent} {c : Cause} {s : State} (he : e ∉ causeEvents s c) :
    namedEvent e c s = s := by
  simp [namedEvent, he]

end Sys2Proof.Machine

namespace Sys2Proof.Settled

open Sys2Proof.Machine

/-- Settles O29: the row is `namedEvent` by `exec_eventRow`, and whether its cause's step holds the event
decides between that step and no change. -/
theorem namedEventsAreTheirCauses : Obligations.NamedEventsAreTheirCauses := by
  refine fun e c s hs => ⟨fun he => ⟨causeStep s c, ?_, exec_causeRow c s, rfl⟩, fun he => ?_⟩
  · rw [exec_eventRow, namedEvent_of_mem hs he]
  · rw [exec_eventRow, namedEvent_of_not_mem he]

end Sys2Proof.Settled
